-- ==== Sys2Proof/Word.lean ====
section
/-! DEFINITION. The word of the R2P block (00_scope R7, R8) and the byte of the integrator's bus (20_memory R63). -/

namespace Sys2Proof

/-- The content of one register: 64 bits, bit 0 the least significant (R7 XLEN, R8). -/
abbrev Word := BitVec 64

/-- One byte lane of a byte-addressed bus (R63). -/
abbrev Byte := BitVec 8

end Sys2Proof
end

