-- ==== Sys2Proof/Machine/Numeric.lean ====
section
/-! DEFINITION. The pseudocode primitives of 00_scope section 5 (R9, R10, R12, R13, R14, R15): exact integers, no floating
point. The logarithms are the exact floors of R13, which that rule makes the definition; its fixed-point forms are not used
(log entry 8). -/

namespace Sys2Proof.Machine

/-- `u64(x)`: the register value of an integer, x mod 2^64 (R10). -/
def u64 (x : Int) : Word := BitVec.ofInt 64 x

/-- `s64(v)`: the signed reading of a register value (R10). -/
def s64 (v : Word) : Int := v.toInt

/-- The register value of a non-negative integer. -/
def word (x : Nat) : Word := BitVec.ofNat 64 x

/-- The number of digits of `x` in base `base`, counting at most `fuel` of them. -/
def countDigits (base : Nat) : Nat → Nat → Nat
  | 0, _ => 0
  | fuel + 1, x => if x = 0 then 0 else countDigits base fuel (x / base) + 1

/-- The number of digits of `x` in base `base`, 0 for x = 0: `x` has no more than `x` digits in a base above 1. -/
def digitCount (base x : Nat) : Nat := countDigits base x x

/-- `len10(x)`: 0 for x = 0, else the n >= 1 with 10^(n-1) <= x < 10^n (R12). -/
def len10 (x : Nat) : Nat := digitCount 10 x

/-- The number of trailing decimal zeros of `x`, counting at most `fuel` of them. -/
def countZeros : Nat → Nat → Nat
  | 0, _ => 0
  | fuel + 1, x => if x % 10 = 0 then countZeros fuel (x / 10) + 1 else 0

/-- `tz10(x)`, x >= 1: the greatest z with x mod 10^z = 0 (R12). -/
def tz10 (x : Nat) : Nat := countZeros x x

/-- The greatest integer k with base^k <= num / den, for positive `num` and `den`: for num >= den from the digits of the
quotient; otherwise k = -j for the least j with den <= num * base^j. -/
def floorLog (base num den : Nat) : Int :=
  if den ≤ num then (digitCount base (num / den) : Int) - 1 else -(digitCount base ((den - 1) / num) : Int)

/-- `flog10pow2(q)` = floor(log10(2^q)) (R13). -/
def flog10pow2 (q : Int) : Int := floorLog 10 (2 ^ q.toNat) (2 ^ (-q).toNat)

/-- `flog10tq(q)` = floor(log10((3/4) * 2^q)) (R13). -/
def flog10tq (q : Int) : Int := floorLog 10 (3 * 2 ^ q.toNat) (4 * 2 ^ (-q).toNat)

/-- `flog2pow10(e)` = floor(log2(10^e)) (R13). -/
def flog2pow10 (e : Int) : Int := floorLog 2 (10 ^ e.toNat) (10 ^ (-e).toNat)

/-- `g(k)` = floor(10^(-k) * 2^(-r)) + 1 with r = flog2pow10(-k) - 125 (R14). -/
def tableG (k : Int) : Nat :=
  let r := flog2pow10 (-k) - 125
  (10 ^ (-k).toNat * 2 ^ (-r).toNat) / (10 ^ k.toNat * 2 ^ r.toNat) + 1

/-- `g1(k)` = g(k) div 2^63 (R14). -/
def tableG1 (k : Int) : Nat := tableG k / 2 ^ 63

/-- `g0(k)` = g(k) mod 2^63 (R14). -/
def tableG0 (k : Int) : Nat := tableG k % 2 ^ 63

/-- `rop(a1, a0, cp)`: multiply, shift by 127 and round to odd with a sticky bit cut to 63 fraction bits, line by line as
R15's pseudocode (log entry 7 on its prose). -/
def rop (a1 a0 cp : Nat) : Nat :=
  let x1 := a0 * cp / 2 ^ 64
  let y := a1 * cp
  let y0 := y % 2 ^ 64
  let y1 := y / 2 ^ 64
  let z := y0 / 2 + x1
  let w := y1 + z / 2 ^ 63
  w ||| (if z % 2 ^ 63 ≠ 0 then 1 else 0)

end Sys2Proof.Machine
end

