-- ==== Sys2Proof/Syntax.lean ====
section
/-! DEFINITION. The fourteen commands of the block (30_encoding R87), one constructor for each row of spec/opcode_table.json.
No command has a register field or an immediate (R91), so no constructor has an argument. -/

namespace Sys2Proof

/-- A command of the R2P block (30_encoding R87). -/
inductive Instr where
  | nop        -- NOP, 43_control R171
  | errclr     -- ERRCLR, 43_control R172
  | srst       -- SRST, 43_control R173
  | decompD    -- DECOMP.D, 40_decomposer R109
  | decompS    -- DECOMP.S, 40_decomposer R110
  | kest       -- KEST, 41_boundary R124
  | gld        -- GLD, 41_boundary R127
  | mulr       -- MULR, 41_boundary R128
  | bsel       -- BSEL, 41_boundary R130
  | shortest   -- SHORTEST, 41_boundary R134
  | dnorm      -- DNORM, 42_digits R152
  | digits     -- DIGITS, 42_digits R154
  | pcalc      -- PCALC, 42_digits R157
  | rndp       -- RNDP, 42_digits R160
  deriving DecidableEq, Repr

end Sys2Proof
end

