-- ==== Sys2Proof/WellFormed.lean ====
section
/-! DEFINITION. What makes a command word legal (30_encoding R85, R89). A term of `Instr` carries no operand (R91) and so
cannot be ill formed; what can be is the 64-bit word a host writes to CMD, and the three checks below are R89's three ways. -/

namespace Sys2Proof

/-- OP, bits 7:0 of a command word (R85). -/
def opField (w : Word) : Byte := w.extractLsb' 0 8

/-- FM, bit 8 of a command word: the format selector of DECOMP (R85, R88). -/
def fmField (w : Word) : Bool := w.getLsbD 8

/-- The thirteen opcodes (R89). -/
def opcodes : List Byte :=
  [0x00, 0x01, 0x02, 0x10, 0x20, 0x21, 0x22, 0x23, 0x24, 0x30, 0x31, 0x32, 0x33]

/-- R85: the two `zero` fields, bits 63:9, hold zero. -/
def zeroFieldsOk (w : Word) : Bool := w.extractLsb' 9 55 == 0

/-- R89: OP is one of the thirteen opcodes. -/
def opcodeOk (w : Word) : Bool := opcodes.contains (opField w)

/-- R88: FM = 1 only with the opcode 0x10. -/
def formatBitOk (w : Word) : Bool := !fmField w || opField w == 0x10

/-- R89: the word is a command of this revision of the interface. -/
def legalWord (w : Word) : Bool := zeroFieldsOk w && opcodeOk w && formatBitOk w

end Sys2Proof
end

