-- ==== Sys2Proof/Decode.lean ====
section
/-! DEFINITION. The decoder of CMD (30_encoding R86 step 1, R87, R89) and the encoder. -/

namespace Sys2Proof

/-- Why a word is no command (R89's three conditions, in its order). The machine reports each as ILLCMD (60_exceptions R212). -/
inductive Illegal where
  | zeroFields   -- bits 63:9 are not zero
  | opcode       -- OP is none of the thirteen opcodes
  | formatBit    -- FM = 1 with an opcode other than 0x10
  deriving DecidableEq, Repr

/-- The opcode map, row by row (R87). -/
def opcodeMap : List (Word × Instr) :=
  [ (0x0000000000000000, .nop),
    (0x0000000000000001, .errclr),
    (0x0000000000000002, .srst),
    (0x0000000000000010, .decompD),
    (0x0000000000000110, .decompS),
    (0x0000000000000020, .kest),
    (0x0000000000000021, .gld),
    (0x0000000000000022, .mulr),
    (0x0000000000000023, .bsel),
    (0x0000000000000024, .shortest),
    (0x0000000000000030, .dnorm),
    (0x0000000000000031, .digits),
    (0x0000000000000032, .pcalc),
    (0x0000000000000033, .rndp) ]

/-- The first of R89's conditions that an illegal word meets. -/
def whyIllegal (w : Word) : Illegal :=
  if !zeroFieldsOk w then .zeroFields
  else if !opcodeOk w then .opcode
  else .formatBit

/-- R86 step 1: the row whose value equals `w`, all 64 bits compared; otherwise the word is illegal, by name. -/
def decode (w : Word) : Except Illegal Instr :=
  match opcodeMap.find? (fun row => row.1 == w) with
  | some row => .ok row.2
  | none => .error (whyIllegal w)

/-- The command word of an instruction, by its fields (R85): OP in bits 7:0, FM in bit 8, the rest zero (R87). -/
def commandWord (op : Byte) (fm : BitVec 1) : Word := (0 : BitVec 55) ++ fm ++ op

/-- The word the host writes to CMD for an instruction (R87). -/
def encode : Instr → Word
  | .nop => commandWord 0x00 0
  | .errclr => commandWord 0x01 0
  | .srst => commandWord 0x02 0
  | .decompD => commandWord 0x10 0
  | .decompS => commandWord 0x10 1
  | .kest => commandWord 0x20 0
  | .gld => commandWord 0x21 0
  | .mulr => commandWord 0x22 0
  | .bsel => commandWord 0x23 0
  | .shortest => commandWord 0x24 0
  | .dnorm => commandWord 0x30 0
  | .digits => commandWord 0x31 0
  | .pcalc => commandWord 0x32 0
  | .rndp => commandWord 0x33 0

/-- The 64-bit value whose low `nbits` bits are those of `w` and whose other bits are zero. -/
def tableWord (nbits w : Nat) : Word := BitVec.ofNat 64 (w % 2 ^ nbits)

/-- The instruction the decoder reads from a row of the opcode table (a command is one 64-bit word: R90). -/
def decodeTableWord (nbits w : Nat) : Option Instr := (decode (tableWord nbits w)).toOption

end Sys2Proof
end

