-- ==== Sys2Proof/Config.lean ====
section
/-! DEFINITION. What an implementation fixes. D00's algorithm is generic over precision, exponent width, bias and the tiny
threshold (00_scope section 3); this is the record of those parameters. The block is one fixed design: R5 to R7 give every
parameter a value (Machine/Operands.lean) and leave none open, so there is no opaque constant here. -/

namespace Sys2Proof

/-- The parameters of a binary floating-point format that R5 and R6 do not derive from others. -/
structure Format where
  /-- P: precision in bits, counting the implicit leading bit. -/
  precision : Nat
  /-- W: width of the biased exponent field in bits. -/
  expWidth : Nat
  /-- BIAS: exponent bias. -/
  bias : Nat
  /-- C_TINY: the threshold of the pre-scaling trick. -/
  tiny : Nat
  deriving DecidableEq, Repr

end Sys2Proof
end

