-- ==== Sys2Proof/Machine/Flags.lean ====
section
/-! DEFINITION. The fields of the control, status and flags registers (10_state R22, R23, R26, R27) and the cause codes
(60_exceptions R211): every read and every write of a bit of them goes through this file. -/

namespace Sys2Proof.Machine

/-- `w[lo+n-1 : lo]` (00_scope R8). -/
def getField (w : Word) (lo n : Nat) : BitVec n := w.extractLsb' lo n

/-- `w` with `w[lo+n-1 : lo] <- x` and every other bit as it was. -/
def putField (w : Word) (lo : Nat) {n : Nat} (x : BitVec n) : Word :=
  (w &&& ~~~((BitVec.allOnes n).setWidth 64 <<< lo)) ||| (x.setWidth 64 <<< lo)

/-- CTRL.JDK (R22). -/
def ctrlJdk (ctrl : Word) : Bool := ctrl.getLsbD 0

/-- CTRL after a host write of `v`: JDK takes bit 0 of `v`, nothing else changes (R22). -/
def writeCtrl (ctrl v : Word) : Word := putField ctrl 0 (getField v 0 1)

/-- CTRL as the host reads it: bits 63:1 read as 0 (R22). -/
def viewCtrl (ctrl : Word) : Word := ctrl &&& 0x0000000000000001

/-- STATUS.ERR (R23). -/
def statusErr (status : Word) : Bool := status.getLsbD 0

/-- STATUS.CAUSE (R23). -/
def statusCause (status : Word) : BitVec 4 := getField status 8 4

/-- STATUS as the host reads it: bits 7:1 and 63:12 read as 0 (R23). -/
def viewStatus (status : Word) : Word := status &&& 0x0000000000000F01

/-- The faults of the block (60_exceptions R211). -/
inductive Cause where
  | illcmd     -- the value written to CMD is no command (R212)
  | badclass   -- FLAGS.CLASS is outside the command's classes (R213)
  | oprange    -- operands outside the verified range (R217)
  | krange     -- K outside the table (R218)
  | badrec     -- (F, E, N) is not a valid record (R219)
  deriving DecidableEq, Repr

/-- The cause codes (R211). -/
def causeCode : Cause → BitVec 4
  | .illcmd => 1
  | .badclass => 2
  | .oprange => 3
  | .krange => 4
  | .badrec => 5

/-- STATUS with ERR <- 1 and CAUSE <- the code of `x` (60_exceptions R214). -/
def statusFaulted (status : Word) (x : Cause) : Word :=
  putField (putField status 0 (1 : BitVec 1)) 8 (causeCode x)

/-- FLAGS.SIGN (R26). -/
def flagSign (flags : Word) : Bool := flags.getLsbD 0

/-- FLAGS.CLASS (R26), the code of R27. -/
def flagClass (flags : Word) : Nat := (getField flags 1 3).toNat

/-- FLAGS.FMT (R26): true for binary32. -/
def flagFmt (flags : Word) : Bool := flags.getLsbD 4

/-- FLAGS.INT (R26). -/
def flagInt (flags : Word) : Bool := flags.getLsbD 5

/-- FLAGS.DKF (R26). -/
def flagDkf (flags : Word) : Bool := flags.getLsbD 6

/-- FLAGS.IRR (R26). -/
def flagIrr (flags : Word) : Bool := flags.getLsbD 7

/-- FLAGS.UPIN (R26). -/
def flagUpin (flags : Word) : Bool := flags.getLsbD 8

/-- FLAGS.WPIN (R26). -/
def flagWpin (flags : Word) : Bool := flags.getLsbD 9

/-- FLAGS.UIN (R26). -/
def flagUin (flags : Word) : Bool := flags.getLsbD 10

/-- FLAGS.WIN (R26). -/
def flagWin (flags : Word) : Bool := flags.getLsbD 11

/-- FLAGS.SEL (R26): 0 s, 1 t, 2 sp10, 3 tp10. -/
def flagSel (flags : Word) : BitVec 2 := getField flags 12 2

/-- FLAGS.TIE (R26). -/
def flagTie (flags : Word) : Bool := flags.getLsbD 14

/-- FLAGS.CARRY (R26). -/
def flagCarry (flags : Word) : Bool := flags.getLsbD 15

/-- DK: -1 when FLAGS.DKF = 1 and 0 otherwise (00_scope R17). -/
def decimalShift (flags : Word) : Int := if flagDkf flags then -1 else 0

/-- FLAGS after a host write of `v`: bits 15:0 are those of `v`, whatever they are; bits 63:16 are ignored (R28). -/
def writeFlags (flags v : Word) : Word := putField flags 0 (getField v 0 16)

/-- FLAGS as the host reads it: bits 63:16 read as 0 (R26). -/
def viewFlags (flags : Word) : Word := flags &&& 0x000000000000FFFF

/-- The codes of the classes, in D00's order (R27). -/
def classZero : BitVec 3 := 0
def classSubnormal : BitVec 3 := 1
def classNormal : BitVec 3 := 2
def classInfinite : BitVec 3 := 3
def classNaN : BitVec 3 := 4

/-- `FLAGS[15:0] <- {0[15:7], dkf, int, FMT, class[2:0], sign}`: all DECOMP writes (40_decomposer R108 to R110). -/
def decompFlags (flags : Word) (dkf int fmt : Bool) (cls : BitVec 3) (sign : Bool) : Word :=
  putField flags 0
    ((0 : BitVec 9) ++ BitVec.ofBool dkf ++ BitVec.ofBool int ++ BitVec.ofBool fmt ++ cls ++ BitVec.ofBool sign)

/-- `FLAGS.IRR <- irr` (41_boundary R124). -/
def putIrr (flags : Word) (irr : Bool) : Word := putField flags 7 (BitVec.ofBool irr)

/-- The six flags BSEL writes (41_boundary R130). -/
def putTests (flags : Word) (upin wpin uin win : Bool) (sel : BitVec 2) (tie : Bool) : Word :=
  let a := putField flags 8 (BitVec.ofBool upin)
  let b := putField a 9 (BitVec.ofBool wpin)
  let c := putField b 10 (BitVec.ofBool uin)
  let d := putField c 11 (BitVec.ofBool win)
  let e := putField d 12 sel
  putField e 14 (BitVec.ofBool tie)

/-- `FLAGS.CARRY <- carry` (42_digits R160). -/
def putCarry (flags : Word) (carry : Bool) : Word := putField flags 15 (BitVec.ofBool carry)

end Sys2Proof.Machine
end

