-- ==== Sys2Proof/Machine/State.lean ====
section
/-! DEFINITION. The state of the block (10_state R20, R21), the actions of its host (20_memory R61 to R63, 70_reset R240), and
the ways a step can end without a next state. Plain data. -/

namespace Sys2Proof.Machine

/-- What the outside of the block can do to it. -/
inductive HostAction where
  /-- `HostRead(i)`, 0 <= i <= 31 (R61). -/
  | read (i : Fin 32)
  /-- `HostWrite(i, v)`, 0 <= i <= 31 (R61); with i = 2 the block executes the command v (R24). -/
  | write (i : Fin 32) (v : Word)
  /-- The integrator's reset, a step between transactions (R240). -/
  | reset
  /-- A read of `width` bytes at byte `offset` from the block's base, where it stands on a byte-addressed bus (R63). -/
  | busRead (offset width : Nat)
  /-- A write of `bytes`, the one at the lowest address first, at byte `offset` from the block's base (R63). -/
  | busWrite (offset : Nat) (bytes : List Byte)
  deriving DecidableEq, Repr

/-- What one read gives the host (70_reset R250). -/
inductive Observation where
  /-- The 64-bit value that `HostRead` returns (R61). -/
  | value (v : Word)
  /-- The bytes that a read on a byte-addressed bus returns, the one at the lowest address first (R63). -/
  | lanes (bytes : List Byte)
  deriving DecidableEq, Repr

/-- The whole state of the block: its registers but CMD, which stores nothing (R20, R21, R24), and below them the two ends
of its host port (R250), which are the model's own fields (log entry 1). -/
structure State where
  /-- CTRL (index 0): the carry mode, one implemented bit (R22). -/
  ctrl : Word
  /-- STATUS (1): fault flag and cause (R23). -/
  status : Word
  /-- EINFO (3): the command word that faulted (R25). -/
  einfo : Word
  /-- FLAGS (4): sign, class, format and the one-bit results of commands (R26). -/
  flags : Word
  /-- BITS (5): the raw bit pattern to decompose (R29). -/
  bits : Word
  /-- C (6): the integer significand c (R30). -/
  c : Word
  /-- Q (7), signed: the binary exponent q (R31). -/
  q : Word
  /-- K (8), signed: the decimal exponent estimate k (R32). -/
  k : Word
  /-- H (9), signed: the left shift applied to the multiplier operand (R33). -/
  h : Word
  /-- G1 (10): the high word of the table entry (R34). -/
  g1 : Word
  /-- G0 (11): the low word of the table entry (R34). -/
  g0 : Word
  /-- VB (12): the scaled value (R35). -/
  vb : Word
  /-- VBL (13): the scaled lower boundary (R35). -/
  vbl : Word
  /-- VBR (14): the scaled upper boundary (R35). -/
  vbr : Word
  /-- F (15): the decimal significand f (R36). -/
  f : Word
  /-- E (16), signed: the decimal exponent e (R37). -/
  e : Word
  /-- N (17): the digit count n (R38). -/
  n : Word
  /-- PREC (18), signed: the requested fractional digits (R39). -/
  prec : Word
  /-- P (19), signed: the number of significant digits to keep (R40). -/
  p : Word
  /-- DIGLO (20): BCD digits 0 to 15 of F (R41). -/
  diglo : Word
  /-- DIGHI (21): BCD digits 16 to 19 of F (R41). -/
  dighi : Word
  /-- The host actions still to be delivered, the next one first (R70, R250). -/
  pending : List HostAction
  /-- What the host's reads have returned, oldest first (R250). -/
  observed : List Observation
  deriving DecidableEq, Repr

/-- Reasons the machine stops. There is none: "The block cannot hang" and a state with STATUS.ERR = 1 "is an ordinary state,
not a final one" (R250). What the spec calls a fault is taken by `raise` in Machine/Ops.lean and is a next state. -/
inductive Fault where
  deriving DecidableEq, Repr

/-- Reasons a step has no meaning. -/
inductive Refusal where
  /-- Raised by an arm of `exec` for an instruction that has no meaning yet: no arm does. Safe. -/
  | notModelled (mnemonic : String)
  /-- Raised by the host port for a bus access that is not one whole aligned register: "the model has no step for it"
  (R62, 93_implementation_defined U17; log entry 6). Safe. -/
  | notATransaction
  deriving DecidableEq, Repr

/-- The state after reset: every register holds 0 (R46, R240). The host port is empty (log entry 1). -/
def State.reset : State where
  ctrl := 0
  status := 0
  einfo := 0
  flags := 0
  bits := 0
  c := 0
  q := 0
  k := 0
  h := 0
  g1 := 0
  g0 := 0
  vb := 0
  vbl := 0
  vbr := 0
  f := 0
  e := 0
  n := 0
  prec := 0
  p := 0
  diglo := 0
  dighi := 0
  pending := []
  observed := []

end Sys2Proof.Machine
end

