-- ==== Sys2Proof/Machine/Operands.lean ====
section
/-! DEFINITION. The operands of the commands, all implicit (30_encoding R91): the register map (10_state R21), the format
parameters (00_scope R5, R6), and the two checks on operand registers, OperandOK (41_boundary R123) and RecOK (00_scope R16). -/

namespace Sys2Proof.Machine

/-- The registers by name (R21). -/
inductive Reg where
  | ctrl | status | cmd | einfo | flags | bits | c | q | k | h | g1 | g0 | vb | vbl | vbr | f | e | n | prec | p
  | diglo | dighi
  deriving DecidableEq, Repr

/-- The register map (R21): the register at index i is entry i; the indices 22 to 31 are unassigned. -/
def registerMap : List Reg :=
  [.ctrl, .status, .cmd, .einfo, .flags, .bits, .c, .q, .k, .h, .g1, .g0, .vb, .vbl, .vbr, .f, .e, .n, .prec, .p,
   .diglo, .dighi]

/-- The register at an index, if one is assigned (R21). -/
def regAt (i : Fin 32) : Option Reg := registerMap[i.val]?

/-- The parameters of binary64 (R5). -/
def binary64 : Format := ⟨53, 11, 1023, 3⟩

/-- The parameters of binary32 (R6). -/
def binary32 : Format := ⟨24, 8, 127, 8⟩

/-- The format that FLAGS.FMT or the FM bit of DECOMP names (R26, 30_encoding R88). -/
def formatOf (fmt : Bool) : Format := if fmt then binary32 else binary64

/-- BQ_MAX, the all-ones biased exponent (R5). -/
def bqMax (F : Format) : Nat := 2 ^ F.expWidth - 1

/-- Q_MIN, the least binary exponent of the integer-significand form (R5). -/
def qMin (F : Format) : Int := 1 - F.bias - (F.precision - 1)

/-- Q_MAX, the greatest binary exponent (R5). -/
def qMax (F : Format) : Int := (2 ^ F.expWidth - 2) - F.bias - (F.precision - 1)

/-- C_MIN, the least normal integer significand (R5). -/
def cMin (F : Format) : Nat := 2 ^ (F.precision - 1)

/-- C_MAX, the greatest integer significand (R5). -/
def cMax (F : Format) : Nat := 2 ^ F.precision - 1

/-- `OperandOK(c, q, dkf, fmt)`, its three cases (a), (b), (c) in order (41_boundary R123). -/
abbrev OperandOK (c : Nat) (q : Int) (dkf fmt : Bool) : Prop :=
  (qMin (formatOf fmt) ≤ q ∧ q ≤ qMax (formatOf fmt)) ∧
    ((dkf = false ∧ cMin (formatOf fmt) ≤ c ∧ c ≤ cMax (formatOf fmt)) ∨
     (dkf = false ∧ q = qMin (formatOf fmt) ∧ (formatOf fmt).tiny ≤ c ∧ c < cMin (formatOf fmt)) ∨
     (dkf = true ∧ q = qMin (formatOf fmt) ∧ ∃ t, t < (formatOf fmt).tiny ∧ 1 ≤ t ∧ c = 10 * t))

/-- OperandOK over the registers C, Q, FLAGS.DKF and FLAGS.FMT (41_boundary R123). -/
abbrev operandsOK (s : State) : Prop := OperandOK s.c.toNat (s64 s.q) (flagDkf s.flags) (flagFmt s.flags)

/-- `RecOK(f, e, n)` (00_scope R16). -/
abbrev RecOK (f e n : Word) : Prop :=
  (f = 0 ∧ e = 0 ∧ n = 0) ∨ (f ≠ 0 ∧ n.toNat = len10 f.toNat)

/-- RecOK over the record registers F, E, N. -/
abbrev recordOK (s : State) : Prop := RecOK s.f s.e s.n

end Sys2Proof.Machine
end

