-- ==== Sys2Proof/Machine/Ops.lean ====
section
/-! DEFINITION. The named operations over the registers: what the host reads and writes (20_memory R61), taking a fault and
leaving it (60_exceptions R214, 43_control R172), the execution gate (30_encoding R86), and the groups of registers that
commands write together (10_state R45). -/

namespace Sys2Proof.Machine

/-- What a register holds, all 64 bits of it; CMD stores nothing (R24). -/
def State.content (s : State) : Reg → Word
  | .ctrl => s.ctrl
  | .status => s.status
  | .cmd => 0
  | .flags => s.flags
  | .einfo => s.einfo
  | .bits => s.bits
  | .c => s.c
  | .q => s.q
  | .k => s.k
  | .h => s.h
  | .g1 => s.g1
  | .g0 => s.g0
  | .vb => s.vb
  | .vbl => s.vbl
  | .vbr => s.vbr
  | .f => s.f
  | .e => s.e
  | .n => s.n
  | .prec => s.prec
  | .p => s.p
  | .diglo => s.diglo
  | .dighi => s.dighi

/-- A register as the host reads it (R61): reserved bits read as 0 (R22, R23, R26) and CMD reads as 0 (R24). -/
def State.view (s : State) (r : Reg) : Word :=
  match r with
  | .ctrl => viewCtrl s.ctrl
  | .status => viewStatus s.status
  | .flags => viewFlags s.flags
  | r => s.content r

/-- The value `HostRead(i)` returns: 0 for an unassigned index (R42, R61). -/
def State.hostRead (s : State) (i : Fin 32) : Word :=
  match regAt i with
  | some r => s.view r
  | none => 0

/-- A host write of `v` to a register other than CMD: STATUS and EINFO are read-only and ignore it (R42); CTRL and FLAGS keep
their reserved bits (R22, R28); CMD stores nothing (R24). -/
def State.store (s : State) (r : Reg) (v : Word) : State :=
  match r with
  | .ctrl => { s with ctrl := writeCtrl s.ctrl v }
  | .status => s
  | .cmd => s
  | .einfo => s
  | .flags => { s with flags := writeFlags s.flags v }
  | .bits => { s with bits := v }
  | .c => { s with c := v }
  | .q => { s with q := v }
  | .k => { s with k := v }
  | .h => { s with h := v }
  | .g1 => { s with g1 := v }
  | .g0 => { s with g0 := v }
  | .vb => { s with vb := v }
  | .vbl => { s with vbl := v }
  | .vbr => { s with vbr := v }
  | .f => { s with f := v }
  | .e => { s with e := v }
  | .n => { s with n := v }
  | .prec => { s with prec := v }
  | .p => { s with p := v }
  | .diglo => { s with diglo := v }
  | .dighi => { s with dighi := v }

/-- TAKING A FAULT (R214): ERR <- 1, CAUSE <- the code of `x`, EINFO <- the command word; no other register changes. -/
def State.raise (s : State) (x : Cause) (w : Word) : State :=
  { s with status := statusFaulted s.status x, einfo := w }

/-- THE RETURN FROM A FAULT (43_control R172): STATUS <- 0, EINFO <- 0; nothing was saved and nothing is restored
(60_exceptions R221). -/
def State.clearFault (s : State) : State := { s with status := 0, einfo := 0 }

/-- Every register to its reset value (43_control R173, 70_reset R240); the host port is no register and stays. -/
def State.resetRegisters (s : State) : State :=
  { State.reset with pending := s.pending, observed := s.observed }

/-- A fault stands: STATUS.ERR = 1 (R23). -/
def State.faultStands (s : State) : Bool := statusErr s.status

/-- A command under the execution gate (R86 steps 4 and 5): ignored while a fault stands; otherwise its body either gives the
state with all its writes made or the cause of its fault, which is taken from the state BEFORE the command (R214: faults are
precise), with the command's word. -/
def command (i : Instr) (body : State → Except Cause State) (s : State) : State :=
  if s.faultStands then s
  else match body s with
    | .ok t => t
    | .error x => s.raise x (encode i)

/-- A word that is no command (R86 step 2, R212): ILLCMD with the word written, unless a fault stands already. -/
def State.illegalCommand (s : State) (w : Word) : State :=
  if s.faultStands then s else s.raise .illcmd w

/-- What DECOMP writes (R45): FLAGS, C, Q. -/
def State.setDecomposition (s : State) (flags c q : Word) : State := { s with flags := flags, c := c, q := q }

/-- What KEST writes (R45): K, H, FLAGS.IRR. -/
def State.setEstimate (s : State) (k h : Word) (irr : Bool) : State :=
  { s with k := k, h := h, flags := putIrr s.flags irr }

/-- What GLD writes (R45): G1, G0. -/
def State.setEntry (s : State) (g1 g0 : Word) : State := { s with g1 := g1, g0 := g0 }

/-- What MULR writes (R45): VB, VBL, VBR. -/
def State.setProducts (s : State) (vb vbl vbr : Word) : State := { s with vb := vb, vbl := vbl, vbr := vbr }

/-- The record (00_scope R18): F, E, N. -/
def State.setRecord (s : State) (f e n : Word) : State := { s with f := f, e := e, n := n }

/-- FLAGS alone. -/
def State.setFlags (s : State) (flags : Word) : State := { s with flags := flags }

/-- What DIGITS writes (R45): DIGLO, DIGHI, N. -/
def State.setDigits (s : State) (diglo dighi n : Word) : State := { s with diglo := diglo, dighi := dighi, n := n }

/-- What PCALC writes (R45): P. -/
def State.setP (s : State) (p : Word) : State := { s with p := p }

end Sys2Proof.Machine
end

