-- ==== Sys2Proof/Machine/Digits.lean ====
section
/-! DEFINITION. The digit unit: DNORM, DIGITS, PCALC, RNDP (42_digits R150 to R161). -/

namespace Sys2Proof.Machine

/-- The record of `dnorm(f, e)`: f * 10^e with its trailing zeros stripped (R151). -/
def dnormRecord (f : Nat) (e : Int) (s : State) : State :=
  if f = 0 then s.setRecord 0 0 0
  else
    let z := tz10 f
    s.setRecord (word (f / 10 ^ z)) (u64 (e + z)) (word (len10 (f / 10 ^ z)))

/-- The writes of DNORM: `(F, E, N) <- dnorm(F, E)` (R152). -/
def dnormBody (s : State) : Except Cause State := .ok (dnormRecord s.f.toNat (s64 s.e) s)

/-- DNORM, R152: total. -/
def execDnorm (s : State) : Host.Outcome State Fault Refusal := .next (command .dnorm dnormBody s)

/-- `d_i = (f div 10^i) mod 10` (R153). -/
def digitAt (f i : Nat) : Nat := f / 10 ^ i % 10

/-- Digits `start` to `start + count - 1` of f in packed BCD, the first in bits 3:0 (R154). -/
def packDigits (f start count : Nat) : Nat :=
  (List.range count).foldl (fun acc j => acc ||| (digitAt f (start + j) <<< (4 * j))) 0

/-- The writes of DIGITS (R154). -/
def digitsWrites (s : State) : State :=
  s.setDigits (word (packDigits s.f.toNat 0 16)) (word (packDigits s.f.toNat 16 4)) (word (len10 s.f.toNat))

/-- DIGITS, R154: total. -/
def execDigits (s : State) : Host.Outcome State Fault Refusal :=
  .next (command .digits (fun t => .ok (digitsWrites t)) s)

/-- The body of PCALC (R157): `P <- u64(N + E + PREC)`, N unsigned, E and PREC signed; BADREC on an invalid record. -/
def pcalcBody (s : State) : Except Cause State :=
  if recordOK s then .ok (s.setP (u64 (s.n.toNat + s64 s.e + s64 s.prec))) else .error .badrec

/-- PCALC, R157. -/
def execPcalc (s : State) : Host.Outcome State Fault Refusal := .next (command .pcalc pcalcBody s)

/-- What `round` returns (R158). -/
structure Rounded where
  f : Nat
  e : Int
  n : Nat
  carry : Bool
  deriving DecidableEq, Repr

/-- The case 0 <= p < n of `round(f, e, n, p, jdk)` for f != 0 (R158): drop m = n - p digits, half up, and write the carry
in the mode `jdk` (R159). -/
def roundDrop (f : Nat) (e : Int) (n p : Nat) (jdk : Bool) : Rounded :=
  let m := n - p
  let qt := f / 10 ^ m
  let rm := f % 10 ^ m
  let f2 := qt + (if 10 ^ m ≤ 2 * rm then 1 else 0)
  let e2 := e + m
  if f2 = 0 then ⟨0, 0, 0, false⟩
  else if f2 = 10 ^ p then
    if jdk = true ∧ 1 ≤ p then ⟨10 ^ (p - 1), e2 + 1, p, true⟩ else ⟨10 ^ p, e2, p + 1, true⟩
  else ⟨f2, e2, p, false⟩

/-- `round(f, e, n, p, jdk)` of a valid record (R158). -/
def roundRecord (f : Nat) (e : Int) (n : Nat) (p : Int) (jdk : Bool) : Rounded :=
  if f = 0 ∨ p < 0 then ⟨0, 0, 0, false⟩
  else if (n : Int) ≤ p then ⟨f, e, n, false⟩
  else roundDrop f e n p.toNat jdk

/-- The body of RNDP (R160); BADREC on an invalid record. -/
def rndpBody (s : State) : Except Cause State :=
  if recordOK s then
    let r := roundRecord s.f.toNat (s64 s.e) s.n.toNat (s64 s.p) (ctrlJdk s.ctrl)
    .ok ((s.setRecord (word r.f) (u64 r.e) (word r.n)).setFlags (putCarry s.flags r.carry))
  else .error .badrec

/-- RNDP, R160. -/
def execRndp (s : State) : Host.Outcome State Fault Refusal := .next (command .rndp rndpBody s)

end Sys2Proof.Machine
end

