-- ==== Sys2Proof/Machine/Boundary.lean ====
section
/-! DEFINITION. The boundary unit: KEST, GLD, MULR, BSEL, SHORTEST (41_boundary R120 to R137). -/

namespace Sys2Proof.Machine

/-- Irregular spacing: C = C_MIN and Q != Q_MIN (R121). -/
def irregular (F : Format) (c : Nat) (q : Int) : Bool := c == cMin F && q != qMin F

/-- The decimal exponent estimate k (R124). -/
def estimateK (F : Format) (c : Nat) (q : Int) : Int := if irregular F c q then flog10tq q else flog10pow2 q

/-- The operand shift h = Q + flog2pow10(-k) + 2 (R124). -/
def shiftH (q k : Int) : Int := q + flog2pow10 (-k) + 2

/-- The body of KEST (R124): the class is checked before the operands (60_exceptions R215). -/
def kestBody (s : State) : Except Cause State :=
  if ¬(flagClass s.flags = 1 ∨ flagClass s.flags = 2) then .error .badclass
  else if ¬operandsOK s then .error .oprange
  else
    let F := formatOf (flagFmt s.flags)
    let k := estimateK F s.c.toNat (s64 s.q)
    .ok (s.setEstimate (u64 k) (u64 (shiftH (s64 s.q) k)) (irregular F s.c.toNat (s64 s.q)))

/-- KEST, R124. -/
def execKest (s : State) : Host.Outcome State Fault Refusal := .next (command .kest kestBody s)

/-- The body of GLD (R127): entry K - K_MIN of the table, KRANGE when K, as signed, is outside it. Inside it there always is an
entry (R66). -/
def gldBody (s : State) : Except Cause State :=
  if s64 s.k < kMin ∨ kMax < s64 s.k then .error .krange
  else match romRead (s64 s.k - kMin).toNat with
    | some (a1, a0) => .ok (s.setEntry a1 a0)
    | none => .error .krange

/-- GLD, R127. -/
def execGld (s : State) : Host.Outcome State Fault Refusal := .next (command .gld gldBody s)

/-- The operands of MULR are outside the range rop is defined on (R128). -/
abbrev mulrOutOfRange (s : State) : Prop :=
  s.c = 0 ∨ s64 s.h < 0 ∨ 63 < s64 s.h ∨ 2 ^ 63 ≤ (4 * s.c.toNat + 2) * 2 ^ s.h.toNat ∨
    2 ^ 63 ≤ s.g1.toNat ∨ 2 ^ 63 ≤ s.g0.toNat

/-- The body of MULR (R128): VB, VBL, VBR from cb = 4 C, cbl and cbr = cb + 2 (R121). -/
def mulrBody (s : State) : Except Cause State :=
  if mulrOutOfRange s then .error .oprange
  else
    let cb := 4 * s.c.toNat
    let cbl := if flagIrr s.flags then cb - 1 else cb - 2
    let cbr := cb + 2
    let product := fun x => word (rop s.g1.toNat s.g0.toNat (x * 2 ^ s.h.toNat))
    .ok (s.setProducts (product cb) (product cbl) (product cbr))

/-- MULR, R128. -/
def execMulr (s : State) : Host.Outcome State Fault Refusal := .next (command .mulr mulrBody s)

/-- What the comparator finds: the four tests, the candidate taken, its code in SEL and the tie (R130). -/
structure Selection where
  upin : Bool
  wpin : Bool
  uin : Bool
  win : Bool
  sel : BitVec 2
  tie : Bool
  cand : Nat
  deriving DecidableEq, Repr

/-- The low-end test of a candidate m: VBL + out <= 4 m (R130, R132). -/
def lowIn (vbl out m : Nat) : Bool := decide (vbl + out ≤ 4 * m)

/-- The high-end test of a candidate m: 4 m + out <= VBR (R130, R132). -/
def highIn (vbr out m : Nat) : Bool := decide (4 * m + out ≤ vbr)

/-- The full two-candidate test between s = VB div 4 and t = s + 1 (R130). -/
def selectFull (vb vbl vbr out : Nat) : Selection :=
  let s := vb / 4
  let t := s + 1
  let uin := lowIn vbl out s
  let win := highIn vbr out t
  let taken := fun sel tie => Selection.mk false false uin win sel tie (if sel = 0 then s else t)
  if uin ≠ win then taken (if uin then 0 else 1) false
  else if vb < 4 * s + 2 then taken 0 false
  else if 4 * s + 2 < vb then taken 1 false
  else taken (if s % 2 = 0 then 0 else 1) true

/-- The comparator (R130): the coarse test first when s >= 100 (R137), the full test when it does not decide. -/
def select (vb vbl vbr out : Nat) : Selection :=
  let s := vb / 4
  let full := selectFull vb vbl vbr out
  if 100 ≤ s then
    let sp10 := 10 * (s / 10)
    let tp10 := sp10 + 10
    let upin := lowIn vbl out sp10
    let wpin := highIn vbr out tp10
    if upin ≠ wpin then ⟨upin, wpin, false, false, if upin then 2 else 3, false, if upin then sp10 else tp10⟩
    else { full with upin := upin, wpin := wpin }
  else full

/-- The record BSEL writes for a candidate (R130, R133): E = K + DK, or the normalised zero. -/
def candidateRecord (cand : Nat) (s : State) : State :=
  if cand = 0 then s.setRecord 0 0 0
  else s.setRecord (word cand) (u64 (s64 s.k + decimalShift s.flags)) (word (len10 cand))

/-- The body of BSEL (R130): total on any register contents. -/
def bselBody (s : State) : Except Cause State :=
  let r := select s.vb.toNat s.vbl.toNat s.vbr.toNat (s.c.toNat % 2)
  .ok ((candidateRecord r.cand s).setFlags (putTests s.flags r.upin r.wpin r.uin r.win r.sel r.tie))

/-- BSEL, R130. -/
def execBsel (s : State) : Host.Outcome State Fault Refusal := .next (command .bsel bselBody s)

/-- The registers describe a fast-path integer: the check of SHORTEST on FLAGS.INT = 1 (R134). -/
abbrev fastPathOK (s : State) : Prop :=
  flagClass s.flags = 2 ∧ flagDkf s.flags = false ∧
    cMin (formatOf (flagFmt s.flags)) ≤ s.c.toNat ∧ s.c.toNat ≤ cMax (formatOf (flagFmt s.flags)) ∧
    0 < -s64 s.q ∧ -s64 s.q < (formatOf (flagFmt s.flags)).precision ∧ s.c.toNat % 2 ^ (-s64 s.q).toNat = 0

/-- The general path of SHORTEST: perform KEST, GLD, MULR, BSEL, DNORM, each later step reading what the earlier ones wrote
(R134). -/
def generalPath (s : State) : Except Cause State :=
  match kestBody s with
  | .error x => .error x
  | .ok s1 =>
    match gldBody s1 with
    | .error x => .error x
    | .ok s2 =>
      match mulrBody s2 with
      | .error x => .error x
      | .ok s3 =>
        match bselBody s3 with
        | .error x => .error x
        | .ok s4 => dnormBody s4

/-- The body of SHORTEST (R134): class Zero, the fast path of 40_decomposer R107, or the general path. -/
def shortestBody (s : State) : Except Cause State :=
  if 3 ≤ flagClass s.flags then .error .badclass
  else if flagClass s.flags = 0 then .ok (s.setRecord 0 0 0)
  else if flagInt s.flags then
    if fastPathOK s then .ok (dnormRecord (s.c.toNat / 2 ^ (-s64 s.q).toNat) 0 s) else .error .oprange
  else if ¬operandsOK s then .error .oprange
  else generalPath s

/-- SHORTEST, R134. -/
def execShortest (s : State) : Host.Outcome State Fault Refusal := .next (command .shortest shortestBody s)

end Sys2Proof.Machine
end

