-- ==== Sys2Proof/Machine/Control.lean ====
section
/-! DEFINITION. The control commands NOP, ERRCLR, SRST (43_control R170 to R173). ERRCLR and SRST are the two commands the
execution gate always lets through (30_encoding R86 step 3). -/

namespace Sys2Proof.Machine

/-- NOP, R171: no effect; it obeys the gate (R170). -/
def execNop (s : State) : Host.Outcome State Fault Refusal := .next (command .nop (fun t => .ok t) s)

/-- ERRCLR, R172: acknowledge a fault, whatever STATUS.ERR is. -/
def execErrclr (s : State) : Host.Outcome State Fault Refusal := .next s.clearFault

/-- SRST, R173: every register to its reset value, whatever STATUS.ERR is. -/
def execSrst (s : State) : Host.Outcome State Fault Refusal := .next s.resetRegisters

end Sys2Proof.Machine
end

