-- ==== Sys2Proof/Machine/Decomposer.lean ====
section
/-! DEFINITION. The decomposer: DECOMP.D and DECOMP.S (40_decomposer R100 to R111), one algorithm with the parameters of the
format, as R110 asks. -/

namespace Sys2Proof.Machine

/-- `sign = BITS[P + W - 1]` (R101). -/
def signOf (F : Format) (bits : Word) : Bool := bits.getLsbD (F.precision + F.expWidth - 1)

/-- `bq = BITS[P + W - 2 : P - 1]` (R101). -/
def biasedExponentOf (F : Format) (bits : Word) : Nat := (getField bits (F.precision - 1) F.expWidth).toNat

/-- `t = BITS[P - 2 : 0]` (R101). -/
def fractionOf (F : Format) (bits : Word) : Nat := (getField bits 0 (F.precision - 1)).toNat

/-- D00's Binary Decomposition with the two flags of R106 and R107. -/
structure Decomposition where
  cls : BitVec 3
  c : Nat
  q : Int
  int : Bool
  dkf : Bool
  deriving DecidableEq, Repr

/-- The fast-path test of a Normal significand: with mq = -q, 0 < mq < P and c mod 2^mq = 0 (R107). -/
def isFastInteger (F : Format) (c : Nat) (q : Int) : Bool :=
  decide (0 < -q) && decide (-q < F.precision) && c % 2 ^ (-q).toNat == 0

/-- Classification and extraction from the biased exponent and the fraction (R102 to R107), in the order of R109's
pseudocode. -/
def decompose (F : Format) (bq t : Nat) : Decomposition :=
  if bq = bqMax F then
    { cls := if t ≠ 0 then classNaN else classInfinite, c := t, q := 0, int := false, dkf := false }
  else if bq ≠ 0 then
    let c := 2 ^ (F.precision - 1) + t
    let q : Int := bq - F.bias - (F.precision - 1)
    { cls := classNormal, c := c, q := q, int := isFastInteger F c q, dkf := false }
  else if t ≠ 0 then
    if t < F.tiny then { cls := classSubnormal, c := 10 * t, q := qMin F, int := false, dkf := true }
    else { cls := classSubnormal, c := t, q := qMin F, int := false, dkf := false }
  else { cls := classZero, c := 0, q := 0, int := false, dkf := false }

/-- The writes of DECOMP in the format that its FM bit `fmt` names (R108 to R110). -/
def decompWrites (fmt : Bool) (s : State) : State :=
  let F := formatOf fmt
  let d := decompose F (biasedExponentOf F s.bits) (fractionOf F s.bits)
  s.setDecomposition (decompFlags s.flags d.dkf d.int fmt d.cls (signOf F s.bits)) (word d.c) (u64 d.q)

/-- DECOMP.D, R109: a binary64 pattern; it never faults (R111). -/
def execDecompD (s : State) : Host.Outcome State Fault Refusal :=
  .next (command .decompD (fun t => .ok (decompWrites false t)) s)

/-- DECOMP.S, R110: a binary32 pattern in BITS[31:0]; it never faults (R111). -/
def execDecompS (s : State) : Host.Outcome State Fault Refusal :=
  .next (command .decompS (fun t => .ok (decompWrites true t)) s)

end Sys2Proof.Machine
end

