-- ==== Sys2Proof/Machine/Dispatch.lean ====
section
/-! DEFINITION. One arm for each command (30_encoding R87). -/

namespace Sys2Proof.Machine

def exec (i : Instr) (s : State) : Host.Outcome State Fault Refusal :=
  match i with
  | .nop => Sys2Proof.Machine.execNop s
  | .errclr => Sys2Proof.Machine.execErrclr s
  | .srst => Sys2Proof.Machine.execSrst s
  | .decompD => Sys2Proof.Machine.execDecompD s
  | .decompS => Sys2Proof.Machine.execDecompS s
  | .kest => Sys2Proof.Machine.execKest s
  | .gld => Sys2Proof.Machine.execGld s
  | .mulr => Sys2Proof.Machine.execMulr s
  | .bsel => Sys2Proof.Machine.execBsel s
  | .shortest => Sys2Proof.Machine.execShortest s
  | .dnorm => Sys2Proof.Machine.execDnorm s
  | .digits => Sys2Proof.Machine.execDigits s
  | .pcalc => Sys2Proof.Machine.execPcalc s
  | .rndp => Sys2Proof.Machine.execRndp s

end Sys2Proof.Machine
end

