-- ==== Sys2Proof/Machine/HostPort.lean ====
section
/-! DEFINITION. The host port (20_memory section 2): what one host action does to the block. -/

namespace Sys2Proof.Machine

/-- The index of CMD (10_state R21). -/
def cmdIndex : Fin 32 := 2

/-- `HostWrite(2, w)`: the block executes the command w spells, or takes ILLCMD (30_encoding R86). -/
def runCommand (w : Word) (s : State) : Host.Outcome State Fault Refusal :=
  match decode w with
  | .ok i => exec i s
  | .error _ => .next (s.illegalCommand w)

/-- `HostRead(i)`: the host observes the value and no register changes (R61, R64). -/
def serveRead (i : Fin 32) (s : State) : Host.Outcome State Fault Refusal :=
  .next { s with observed := s.observed ++ [.value (s.hostRead i)] }

/-- `HostWrite(i, v)` (R61): a command at CMD, a store at an assigned index, nothing at another (R42). -/
def serveWrite (i : Fin 32) (v : Word) (s : State) : Host.Outcome State Fault Refusal :=
  if i = cmdIndex then runCommand v s
  else match regAt i with
    | some r => .next (s.store r v)
    | none => .next s

/-- The register a bus access of `width` bytes at byte `offset` from the block's base names, if it is one whole aligned
register of the block (R62, R63: register i is at offset 8 i). -/
def busIndex (offset width : Nat) : Option (Fin 32) :=
  if h : width = 8 ∧ offset % 8 = 0 ∧ offset / 8 < 32 then some ⟨offset / 8, h.2.2⟩ else none

/-- The integer of bytes in little-endian order: the byte at offset j holds bits 8j+7 to 8j (R63). -/
def littleEndian : List Byte → Nat
  | [] => 0
  | b :: bs => b.toNat + 2 ^ 8 * littleEndian bs

/-- The eight bytes of a register in the order of their offsets: the byte at offset j holds bits 8j+7 to 8j (R63). -/
def laneBytes (v : Word) : List Byte := (List.range 8).map fun j => v.extractLsb' (8 * j) 8

/-- A bus read of the whole of register i: the host observes the bytes of what `HostRead(i)` returns, and no register changes
(R63, R64). -/
def serveBusRead (i : Fin 32) (s : State) : Host.Outcome State Fault Refusal :=
  .next { s with observed := s.observed ++ [.lanes (laneBytes (s.hostRead i))] }

/-- One host action. A bus access that is one whole aligned register is the transaction on that register (R63); another has no
step (R62). The integrator's reset leaves every register at its reset value (70_reset R240). -/
def serve (a : HostAction) (s : State) : Host.Outcome State Fault Refusal :=
  match a with
  | .read i => serveRead i s
  | .write i v => serveWrite i v s
  | .reset => .next s.resetRegisters
  | .busRead offset width =>
    match busIndex offset width with
    | some i => serveBusRead i s
    | none => .refused .notATransaction
  | .busWrite offset bytes =>
    match busIndex offset bytes.length with
    | some i => serveWrite i (word (littleEndian bytes)) s
    | none => .refused .notATransaction

/-- The port delivers the first pending action (R70); with none pending nothing happens in the block (60_exceptions R216). -/
def deliver (s : State) : Host.Outcome State Fault Refusal :=
  match s.pending with
  | [] => .next s
  | a :: rest => serve a { s with pending := rest }

/-- The state with a `HostWrite` to CMD of the word `w` as the next host action. -/
def State.withCommand (s : State) (w : Word) : State := { s with pending := .write cmdIndex w :: s.pending }

end Sys2Proof.Machine
end

