-- ==== Sys2Proof/Machine/Step.lean ====
section
/-! DEFINITION. One step of the machine: one host action (70_reset R250: "each transaction is one step, total and
deterministic"). -/

namespace Sys2Proof.Machine

/-- One step: the host port delivers its next action. -/
def step (s : State) : Host.Outcome State Fault Refusal := deliver s

/-- The state whose very next step runs the command of the given table bits. The block fetches nothing (20_memory R72): a
command comes to run by being written to CMD, so the write stands first in the host port (log entry 3). -/
def State.withFetchWord (s : State) (nbits w : Nat) : State := s.withCommand (tableWord nbits w)

end Sys2Proof.Machine
end

