-- ==== Sys2Proof/Machine/HostSequences.lean ====
section
/-! DEFINITION. The pseudo-instructions of the host (45_host_sequences R181 to R187): fixed lists of host transactions. They add
nothing to the block (30_encoding R93). The host's own decisions between the transactions of FORMATP.D, and the text it makes
of what it reads, are software and outside the model (00_scope R4). -/

namespace Sys2Proof.Machine

/-- `cmd <MNEMONIC>` (30_encoding R92). -/
def cmdStatement (i : Instr) : HostAction := .write cmdIndex (encode i)

/-- `SPLIT.D v` (R181). -/
def splitD (v : Word) : List HostAction :=
  [.write 5 v, cmdStatement .decompD, cmdStatement .shortest, .read 1, .read 15, .read 16, .read 17]

/-- `SPLIT.S v` (R182). -/
def splitS (v : Word) : List HostAction :=
  [.write 5 v, cmdStatement .decompS, cmdStatement .shortest, .read 1, .read 15, .read 16, .read 17]

/-- `STEPWISE` (R183). -/
def stepwise : List HostAction :=
  [cmdStatement .kest, cmdStatement .gld, cmdStatement .mulr, cmdStatement .bsel, cmdStatement .dnorm]

/-- `ROUNDFD prec` (R184). -/
def roundFd (prec : Int) : List HostAction := [.write 18 (u64 prec), cmdStatement .pcalc, cmdStatement .rndp]

/-- `ROUNDP p` (R185). -/
def roundP (p : Int) : List HostAction := [.write 19 (u64 p), cmdStatement .rndp]

/-- `GETDIGITS` (R186). -/
def getDigits : List HostAction := [cmdStatement .digits, .read 20, .read 21, .read 17, .read 16]

/-- `FORMATP.D v, prec, mode` up to the read of FLAGS after which the host decides whether to go on (R187). -/
def formatPDHead (v mode : Word) : List HostAction := [.write 0 mode, .write 5 v, cmdStatement .decompD, .read 4]

/-- The rest of `FORMATP.D`, for prec >= 0 and a class other than 3 and 4 (R187). -/
def formatPDTail (prec : Int) : List HostAction :=
  cmdStatement .shortest :: roundFd prec ++ getDigits ++ [.read 1]

end Sys2Proof.Machine
end

