-- ==== Sys2Proof/Safety.lean ====
section
/-! DEFINITION. The terms in which claims about the block are stated: its invariant, what entering a fault is, which bits a
command may read and write (10_state R45, transcribed row by row), and the value a bit pattern stands for. -/

namespace Sys2Proof.Machine

/-- The reserved bits of CTRL, STATUS and FLAGS hold zero (10_state R22, R23, R26). -/
abbrev reservedZero (s : State) : Prop :=
  s.ctrl &&& 0xFFFFFFFFFFFFFFFE = 0 ∧ s.status &&& 0xFFFFFFFFFFFFF0FE = 0 ∧ s.flags &&& 0xFFFFFFFFFFFF0000 = 0

/-- The words EINFO may hold for each cause (60_exceptions R211, last column; R89 for ILLCMD). -/
def recordable : Cause → Word → Bool
  | .illcmd, w => !legalWord w
  | .badclass, w => w == 0x20 || w == 0x24
  | .oprange, w => w == 0x20 || w == 0x22 || w == 0x24
  | .krange, w => w == 0x21
  | .badrec, w => w == 0x32 || w == 0x33

/-- STATUS and EINFO agree (R23, R25, R211): either no fault stands, and CAUSE and EINFO are 0, or one stands, CAUSE is the code
of a cause and EINFO a word that can have raised it. -/
def faultRecorded (s : State) : Bool :=
  (!statusErr s.status && statusCause s.status == 0 && s.einfo == 0) ||
  (statusErr s.status &&
    [Cause.illcmd, .badclass, .oprange, .krange, .badrec].any
      (fun x => statusCause s.status == causeCode x && recordable x s.einfo))

/-- The invariant of the block. -/
abbrev Inv (s : State) : Prop := reservedZero s ∧ faultRecorded s = true

/-- Going from `s` to `t` is a fault entry with the cause code `code` and the command word `w` (60_exceptions R214): ERR and
CAUSE of STATUS, and EINFO, are written, and nothing else. -/
abbrev FaultEntered (s t : State) (code : BitVec 4) (w : Word) : Prop :=
  t = { s with status := t.status, einfo := w } ∧ statusErr t.status = true ∧ statusCause t.status = code ∧
    t.status &&& 0xFFFFFFFFFFFFF0FE = s.status &&& 0xFFFFFFFFFFFFF0FE

/-- All bits of a register. -/
def wholeRegister : Word := 0xFFFFFFFFFFFFFFFF

/-- The bits a command may write when it completes without a fault (10_state R45, third column). -/
def writeMask (i : Instr) (r : Reg) : Word :=
  match i, r with
  | .errclr, .status => wholeRegister
  | .errclr, .einfo => wholeRegister
  | .srst, _ => wholeRegister
  | .decompD, .flags => 0xFFFF
  | .decompD, .c => wholeRegister
  | .decompD, .q => wholeRegister
  | .decompS, .flags => 0xFFFF
  | .decompS, .c => wholeRegister
  | .decompS, .q => wholeRegister
  | .kest, .k => wholeRegister
  | .kest, .h => wholeRegister
  | .kest, .flags => 0x0080
  | .gld, .g1 => wholeRegister
  | .gld, .g0 => wholeRegister
  | .mulr, .vb => wholeRegister
  | .mulr, .vbl => wholeRegister
  | .mulr, .vbr => wholeRegister
  | .bsel, .f => wholeRegister
  | .bsel, .e => wholeRegister
  | .bsel, .n => wholeRegister
  | .bsel, .flags => 0x7F00
  | .shortest, .f => wholeRegister
  | .shortest, .e => wholeRegister
  | .shortest, .n => wholeRegister
  | .shortest, .k => wholeRegister
  | .shortest, .h => wholeRegister
  | .shortest, .g1 => wholeRegister
  | .shortest, .g0 => wholeRegister
  | .shortest, .vb => wholeRegister
  | .shortest, .vbl => wholeRegister
  | .shortest, .vbr => wholeRegister
  | .shortest, .flags => 0x7F80
  | .dnorm, .f => wholeRegister
  | .dnorm, .e => wholeRegister
  | .dnorm, .n => wholeRegister
  | .digits, .diglo => wholeRegister
  | .digits, .dighi => wholeRegister
  | .digits, .n => wholeRegister
  | .pcalc, .p => wholeRegister
  | .rndp, .f => wholeRegister
  | .rndp, .e => wholeRegister
  | .rndp, .n => wholeRegister
  | .rndp, .flags => 0x8000
  | _, _ => 0

/-- The bits a command may read (10_state R45, second column; 40_decomposer R110 for the half of BITS that DECOMP.S reads). -/
def readMask (i : Instr) (r : Reg) : Word :=
  match i, r with
  | .decompD, .bits => wholeRegister
  | .decompS, .bits => 0x00000000FFFFFFFF
  | .kest, .flags => 0x005E
  | .kest, .c => wholeRegister
  | .kest, .q => wholeRegister
  | .gld, .k => wholeRegister
  | .mulr, .c => wholeRegister
  | .mulr, .h => wholeRegister
  | .mulr, .g1 => wholeRegister
  | .mulr, .g0 => wholeRegister
  | .mulr, .flags => 0x0080
  | .bsel, .c => 0x0001
  | .bsel, .vb => wholeRegister
  | .bsel, .vbl => wholeRegister
  | .bsel, .vbr => wholeRegister
  | .bsel, .k => wholeRegister
  | .bsel, .flags => 0x0040
  | .shortest, .flags => 0x007E
  | .shortest, .c => wholeRegister
  | .shortest, .q => wholeRegister
  | .dnorm, .f => wholeRegister
  | .dnorm, .e => wholeRegister
  | .digits, .f => wholeRegister
  | .pcalc, .f => wholeRegister
  | .pcalc, .e => wholeRegister
  | .pcalc, .n => wholeRegister
  | .pcalc, .prec => wholeRegister
  | .rndp, .ctrl => 0x0001
  | .rndp, .f => wholeRegister
  | .rndp, .e => wholeRegister
  | .rndp, .n => wholeRegister
  | .rndp, .p => wholeRegister
  | _, _ => 0

/-- The magnitude an IEEE 754 bit pattern of a finite value stands for (40_decomposer R103, R105), as an exact rational. -/
def ieeeMagnitude (F : Format) (pattern : Nat) : ℚ :=
  let t := pattern % 2 ^ (F.precision - 1)
  let bq := pattern / 2 ^ (F.precision - 1) % 2 ^ F.expWidth
  if bq = 0 then (t : ℚ) * 2 ^ qMin F
  else ((2 ^ (F.precision - 1) + t : ℕ) : ℚ) * 2 ^ ((bq : ℤ) - F.bias - (F.precision - 1))

/-- `n` is the number of decimal digits of f > 0, and f does not end in a zero: a canonical non-zero record (41_boundary
R134). -/
abbrev Canonical (f n : Nat) : Prop := ¬10 ∣ f ∧ 1 ≤ n ∧ 10 ^ (n - 1) ≤ f ∧ f < 10 ^ n

/-- The commands of a list, one after another, each on the state the one before it left. -/
def execAll : List Instr → State → Host.Outcome State Fault Refusal
  | [], s => .next s
  | i :: is, s =>
    match exec i s with
    | .next t => execAll is t
    | .fault x => .fault x
    | .refused x => .refused x

/-- A host action that writes `w` to CMD, directly or as a bus access (20_memory R61, R63). -/
def writesCommand (a : HostAction) (w : Word) : Bool :=
  match a with
  | .write i v => i == cmdIndex && v == w
  | .busWrite offset bytes => busIndex offset bytes.length == some cmdIndex && word (littleEndian bytes) == w
  | _ => false

end Sys2Proof.Machine
end

