-- ==== Sys2Proof/Certificates/Slice0/Obligations.lean ====
section
/-! DEFINITION. The statements for the provers, from the numbered rules of spec/. An equation `t = { s with ... }` in a
statement is the frame: every register it does not name, and both ends of the host port, are as they were. -/

open Sys2Proof Sys2Proof.Machine

/-! ### Encoding (30_encoding) -/

/-- R87: a sanity check of the decoder on words written out from R85's fields, one of each family and one illegal word. -/
def Obligations.SampleWordsDecode : Prop :=
  decode 0b0000000000000000000000000000000000000000000000000000000_0_00000000 = .ok .nop ∧
  decode 0b0000000000000000000000000000000000000000000000000000000_1_00010000 = .ok .decompS ∧
  decode 0b0000000000000000000000000000000000000000000000000000000_0_00100100 = .ok .shortest ∧
  decode 0b0000000000000000000000000000000000000000000000000000000_0_00110011 = .ok .rndp ∧
  decode 0b0000000000000000000000000000000000000000000000000000000_1_00100000 = .error .formatBit

/-- R87: a 64-bit value is the command of a row exactly when it is that row's value; every other value is illegal. -/
def Obligations.OpcodeMapIsExact : Prop :=
  ∀ (w : Word) (i : Instr), decode w = .ok i ↔
    (w, i) ∈ [((0x0000000000000000 : Word), Instr.nop), (0x0000000000000001, .errclr), (0x0000000000000002, .srst),
      (0x0000000000000010, .decompD), (0x0000000000000110, .decompS), (0x0000000000000020, .kest),
      (0x0000000000000021, .gld), (0x0000000000000022, .mulr), (0x0000000000000023, .bsel),
      (0x0000000000000024, .shortest), (0x0000000000000030, .dnorm), (0x0000000000000031, .digits),
      (0x0000000000000032, .pcalc), (0x0000000000000033, .rndp)]

/-- R85, R90: decode and encode agree both ways: the encoding of every instruction decodes to it, and a word that decodes to an
instruction is its encoding, so no bit of the word is dropped. -/
def Obligations.DecodeInvertsEncode : Prop :=
  ∀ (w : Word) (i : Instr), decode w = .ok i ↔ w = encode i

/-- R89: a word is illegal exactly when bits 63:9 are not zero, or OP is none of the thirteen opcodes, or FM = 1 and OP is not
0x10; written to CMD it raises ILLCMD when ERR = 0 and is ignored when ERR = 1, and does nothing else. -/
def Obligations.IllegalWordsFault : Prop :=
  ∀ (s : State) (w : Word) (rest : List HostAction), s.pending = .write 2 w :: rest →
    let s0 : State := { s with pending := rest }
    let illegal := w.toNat / 2 ^ 9 ≠ 0 ∨
      w.toNat % 256 ∉ [0x00, 0x01, 0x02, 0x10, 0x20, 0x21, 0x22, 0x23, 0x24, 0x30, 0x31, 0x32, 0x33] ∨
      (w.toNat / 256 % 2 = 1 ∧ w.toNat % 256 ≠ 0x10)
    ((∃ r, decode w = .error r) ↔ illegal) ∧
    (illegal → statusErr s.status = false → ∃ t, step s = .next t ∧ FaultEntered s0 t 1 w) ∧
    (illegal → statusErr s.status = true → step s = .next s0)

/-! ### One step of the host port (20_memory, 70_reset) -/

/-- R61, R86: a pending write to CMD of a word that decodes to `i` makes the step run `i` on the state whose port has lost that
write. That nothing else is around `exec`, because the gate of R86 step 4 stands inside it, is the model's choice (log entry
4). -/
def Obligations.StepRunsDecodedCommand : Prop :=
  ∀ (s : State) (w : Word) (i : Instr) (rest : List HostAction),
    s.pending = .write 2 w :: rest → decode w = .ok i → step s = exec i { s with pending := rest }

/-- R61, R42: what a host read returns at each of the 32 indices, and that the read changes no register (R64). That the value
goes to the end of a list of observations is the model's form of R250's observation (log entry 1). -/
def Obligations.HostReadReturnsRegister : Prop :=
  ∀ s : State,
    (List.finRange 32).map s.hostRead =
      [(s.ctrl.extractLsb' 0 1).setWidth 64,
       (s.status.extractLsb' 0 1).setWidth 64 ||| (s.status.extractLsb' 8 4).setWidth 64 <<< 8, 0, s.einfo,
       (s.flags.extractLsb' 0 16).setWidth 64, s.bits, s.c, s.q, s.k, s.h, s.g1, s.g0, s.vb, s.vbl, s.vbr, s.f, s.e, s.n,
       s.prec, s.p, s.diglo, s.dighi, 0, 0, 0, 0, 0, 0, 0, 0, 0, 0] ∧
    ∀ (i : Fin 32) (rest : List HostAction), s.pending = .read i :: rest →
      step s = .next { s with pending := rest, observed := s.observed ++ [.value (s.hostRead i)] }

/-- R61, R42, R22, R28: a host write to an index other than CMD leaves its value there (CTRL keeps bit 0, FLAGS bits 15:0, the
read-only registers and the unassigned indices ignore it) and changes no other register. -/
def Obligations.HostWriteStoresOneRegister : Prop :=
  ∀ (s : State) (i : Fin 32) (v : Word) (rest : List HostAction),
    s.pending = .write i v :: rest → i ≠ 2 →
    ∃ t, step s = .next t ∧ t.pending = rest ∧ t.observed = s.observed ∧
      t.hostRead i =
        (if i = 0 then v &&& 1 else if i = 4 then v &&& 0xFFFF
         else if i = 1 ∨ i = 3 ∨ 22 ≤ i then s.hostRead i else v) ∧
      (i = 1 ∨ i = 3 ∨ 22 ≤ i → t = { s with pending := rest }) ∧
      ∀ r, regAt i ≠ some r → t.content r = s.content r

/-- R42: a host read of an index from 22 to 31 returns 0; a host write to one, or to STATUS or EINFO, changes nothing; neither
faults. -/
def Obligations.UnassignedIndicesDoNothing : Prop :=
  ∀ (s : State) (i : Fin 32) (v : Word) (rest : List HostAction),
    let s0 : State := { s with pending := rest }
    (22 ≤ i → s.pending = .read i :: rest → step s = .next { s0 with observed := s.observed ++ [.value 0] }) ∧
    (22 ≤ i ∨ i = 1 ∨ i = 3 → s.pending = .write i v :: rest → step s = .next s0)

/-- R64: a write to a register other than CMD is idempotent, and the value a read returns does not change by reading. -/
def Obligations.AccessesAreIdempotent : Prop :=
  ∀ (s : State) (i : Fin 32) (v : Word), i ≠ 2 →
    ∃ t, serveWrite i v s = .next t ∧ serveWrite i v t = .next t ∧
      ∃ u, serveRead i s = .next u ∧ (∀ r, u.content r = s.content r) ∧ ∀ j, u.hostRead j = s.hostRead j

/-- R63: on a byte-addressed bus a read of eight bytes at offset 8 i returns the bytes of register i, and a write of eight bytes
there is the write of the register they spell, the byte at offset 8 i + j holding bits 8j+7 to 8j in both. R62: a read or write
that is not eight bytes wide or not 8-byte aligned has no step. That one at an offset of 256 or more, counted from the base, has
none either, and that the model says so by a refusal, is the model's deduction (log entry 6). -/
def Obligations.BusAccessIsRegisterTransaction : Prop :=
  ∀ (s : State) (i : Fin 32) (v : Word) (rest : List HostAction) (offset width : Nat) (bytes : List Byte),
    (s.pending = .busRead (8 * i.val) 8 :: rest → ∃ lanes : List Byte, lanes.length = 8 ∧
      (∀ j, j < 8 → lanes[j]? = some ((s.hostRead i).extractLsb' (8 * j) 8)) ∧
      step s = .next { s with pending := rest, observed := s.observed ++ [.lanes lanes] }) ∧
    (bytes.length = 8 → (∀ j, j < 8 → bytes[j]? = some (v.extractLsb' (8 * j) 8)) →
      serve (.busWrite (8 * i.val) bytes) s = serve (.write i v) s) ∧
    (s.pending = .busRead offset width :: rest → (width ≠ 8 ∨ offset % 8 ≠ 0 ∨ 256 ≤ offset) →
      step s = .refused .notATransaction) ∧
    (s.pending = .busWrite offset bytes :: rest → (bytes.length ≠ 8 ∨ offset % 8 ≠ 0 ∨ 256 ≤ offset) →
      step s = .refused .notATransaction)

/-- R250, R69: every host transaction and the reset has a next state whatever the state is; exactly it is consumed, and the host
observes one more value at a read and none at anything else. A port with nothing pending leaves the block as it is: that is the
model's choice (log entry 2), and so are the two ends of the port as fields of the state (log entry 1). -/
def Obligations.EveryTransactionCompletes : Prop :=
  ∀ (s : State) (rest : List HostAction),
    (s.pending = [] → step s = .next s) ∧
    (∀ i, s.pending = .read i :: rest →
      ∃ t v, step s = .next t ∧ t.pending = rest ∧ t.observed = s.observed ++ [.value v]) ∧
    (∀ i v, s.pending = .write i v :: rest → ∃ t, step s = .next t ∧ t.pending = rest ∧ t.observed = s.observed) ∧
    (s.pending = .reset :: rest → ∃ t, step s = .next t ∧ t.pending = rest ∧ t.observed = s.observed)

/-- R240, R46: the reset is a step after which every register holds 0, whatever it held. -/
def Obligations.ResetZeroesEveryRegister : Prop :=
  ∀ (s : State) (rest : List HostAction), s.pending = .reset :: rest →
    ∃ t, step s = .next t ∧ (∀ r, t.content r = 0) ∧ recordOK t ∧ t.pending = rest ∧ t.observed = s.observed

/-- R241: SHORTEST straight after reset gives the zero record and no fault. -/
def Obligations.ShortestAfterReset : Prop :=
  exec .shortest State.reset = .next State.reset

/-! ### Control commands (43_control) -/

/-- R171: the word 0 is NOP, and NOP changes nothing, whether a fault stands or not. -/
def Obligations.NopChangesNothing : Prop :=
  decode 0x0000000000000000 = .ok .nop ∧ ∀ s : State, exec .nop s = .next s

/-- R172: the word 1 is ERRCLR, which clears STATUS and EINFO, whether a fault stands or not, and nothing else. When no fault
stands it changes nothing: in states that meet the invariant, STATUS and EINFO are then 0 already (R23, R25). -/
def Obligations.ErrclrClearsFault : Prop :=
  decode 0x0000000000000001 = .ok .errclr ∧
  ∀ s : State, exec .errclr s = .next { s with status := 0, einfo := 0 } ∧
    (Inv s → statusErr s.status = false → exec .errclr s = .next s)

/-- R173: the word 2 is SRST, which, whether a fault stands or not, puts every register to its reset value, as the hardware
reset does. -/
def Obligations.SrstResetsRegisters : Prop :=
  decode 0x0000000000000002 = .ok .srst ∧
  ∀ s : State, exec .srst s = serve .reset s ∧
    ∃ t, exec .srst s = .next t ∧ (∀ r, t.content r = 0 ∧ t.content r = State.reset.content r) ∧
      t.pending = s.pending ∧ t.observed = s.observed

/-- R86 step 4, R221: while a fault stands every command but ERRCLR and SRST changes nothing. -/
def Obligations.FaultGatesCommands : Prop :=
  ∀ (i : Instr) (s : State), statusErr s.status = true → i ≠ .errclr → i ≠ .srst → exec i s = .next s

/-- R221: a step from a state where a fault stands keeps STATUS and EINFO, unless it is a write of ERRCLR or SRST to CMD or a
reset, and then it clears both. -/
def Obligations.FaultIsKeptUntilCleared : Prop :=
  ∀ s t : State, statusErr s.status = true → step s = .next t →
    (t.status = s.status ∧ t.einfo = s.einfo) ∨
    (t.status = 0 ∧ t.einfo = 0 ∧ ∃ a rest, s.pending = a :: rest ∧
      (a = .reset ∨ writesCommand a 0x01 = true ∨ writesCommand a 0x02 = true))

/-! ### Decomposer (40_decomposer) -/

/-- R109: the word 0x10 is DECOMP.D, with P = 53, W = 11, BIAS = 1023, Q_MIN = -1074, C_TINY = 3. -/
def Obligations.DecompDSplitsBinary64 : Prop :=
  decode 0x0000000000000010 = .ok .decompD ∧ ∀ s : State, statusErr s.status = false →
    let sign : Nat := s.bits.toNat / 2 ^ 63
    let bq : Nat := s.bits.toNat / 2 ^ 52 % 2 ^ 11
    let t : Nat := s.bits.toNat % 2 ^ 52
    ∃ (u : State) (cls c int dkf : Nat) (q : Int),
      exec .decompD s = .next u ∧ u = { s with flags := u.flags, c := u.c, q := u.q } ∧
      u.flags.toNat = s.flags.toNat / 2 ^ 16 * 2 ^ 16 + (sign + 2 * cls + 32 * int + 64 * dkf) ∧
      u.c.toNat = c ∧ u.q.toInt = q ∧
      (bq = 2047 → cls = (if t = 0 then 3 else 4) ∧ c = t ∧ q = 0 ∧ int = 0 ∧ dkf = 0) ∧
      (bq ≠ 2047 → bq ≠ 0 → cls = 2 ∧ c = 2 ^ 52 + t ∧ q = (bq : ℤ) - 1075 ∧ dkf = 0 ∧
        int = (if 0 < -q ∧ -q < 53 ∧ c % 2 ^ (-q).toNat = 0 then 1 else 0)) ∧
      (bq = 0 → t ≠ 0 → cls = 1 ∧ q = -1074 ∧ int = 0 ∧
        c = (if t < 3 then 10 * t else t) ∧ dkf = (if t < 3 then 1 else 0)) ∧
      (bq = 0 → t = 0 → cls = 0 ∧ c = 0 ∧ q = 0 ∧ int = 0 ∧ dkf = 0)

/-- R110: the word 0x110 is DECOMP.S, with P = 24, W = 8, BIAS = 127, Q_MIN = -149, C_TINY = 8; BITS[63:32] is ignored. -/
def Obligations.DecompSSplitsBinary32 : Prop :=
  decode 0x0000000000000110 = .ok .decompS ∧ ∀ s : State, statusErr s.status = false →
    let sign : Nat := s.bits.toNat / 2 ^ 31 % 2
    let bq : Nat := s.bits.toNat / 2 ^ 23 % 2 ^ 8
    let t : Nat := s.bits.toNat % 2 ^ 23
    ∃ (u : State) (cls c int dkf : Nat) (q : Int),
      exec .decompS s = .next u ∧ u = { s with flags := u.flags, c := u.c, q := u.q } ∧
      u.flags.toNat = s.flags.toNat / 2 ^ 16 * 2 ^ 16 + (sign + 2 * cls + 16 + 32 * int + 64 * dkf) ∧
      u.c.toNat = c ∧ u.q.toInt = q ∧
      (bq = 255 → cls = (if t = 0 then 3 else 4) ∧ c = t ∧ q = 0 ∧ int = 0 ∧ dkf = 0) ∧
      (bq ≠ 255 → bq ≠ 0 → cls = 2 ∧ c = 2 ^ 23 + t ∧ q = (bq : ℤ) - 150 ∧ dkf = 0 ∧
        int = (if 0 < -q ∧ -q < 24 ∧ c % 2 ^ (-q).toNat = 0 then 1 else 0)) ∧
      (bq = 0 → t ≠ 0 → cls = 1 ∧ q = -149 ∧ int = 0 ∧
        c = (if t < 8 then 10 * t else t) ∧ dkf = (if t < 8 then 1 else 0)) ∧
      (bq = 0 → t = 0 → cls = 0 ∧ c = 0 ∧ q = 0 ∧ int = 0 ∧ dkf = 0)

/-- R112, R17, R123: after DECOMP of a finite non-zero value, |v| = C * 2^Q * 10^DK exactly, the operands satisfy OperandOK, the
flags name the format, and C is even when DKF = 1; for the other classes Q = 0, INT = 0 and DKF = 0. The spec infers R112 itself
("[derived: from rule R103, rule R104, rule R105, rule R106]"). -/
def Obligations.DecompIsExact : Prop :=
  ∀ s : State, statusErr s.status = false → ∀ fmt : Bool,
    ∃ t, exec (if fmt then .decompS else .decompD) s = .next t ∧ flagFmt t.flags = fmt ∧
      (flagClass t.flags = 1 ∨ flagClass t.flags = 2 →
        operandsOK t ∧
        ieeeMagnitude (formatOf fmt) s.bits.toNat =
          (t.c.toNat : ℚ) * 2 ^ t.q.toInt * 10 ^ decimalShift t.flags ∧
        (flagDkf t.flags = true → t.c.toNat % 2 = 0)) ∧
      (¬(flagClass t.flags = 1 ∨ flagClass t.flags = 2) → t.q = 0 ∧ flagInt t.flags = false ∧ flagDkf t.flags = false)

/-! ### Integer logarithms and the constant table (00_scope, 20_memory, 21_constant_table) -/

/-- R13: the three logarithms are the exact floors: the greatest integer k with 10^k <= 2^q, with 4 * 10^k <= 3 * 2^q, and the
greatest r with 2^r <= 10^e. -/
def Obligations.LogarithmsAreExactFloors : Prop :=
  ∀ q k : ℤ,
    (k ≤ flog10pow2 q ↔ (10 : ℚ) ^ k ≤ 2 ^ q) ∧
    (k ≤ flog10tq q ↔ 4 * (10 : ℚ) ^ k ≤ 3 * 2 ^ q) ∧
    (k ≤ flog2pow10 q ↔ (2 : ℚ) ^ k ≤ 10 ^ q)

/-- R13: the fixed-point forms of the logarithms, which the spec gives as "[from general knowledge, not in source]", are exact on
the ranges it names. The model does not compute with them (log entry 8). -/
def Obligations.FixedPointLogarithmsAgree : Prop :=
  (∀ q : ℤ, -1100 ≤ q → q ≤ 999 →
    flog10pow2 q = q * 661971961083 / 2 ^ 41 ∧ flog10tq q = (q * 661971961083 - 274743187321) / 2 ^ 41) ∧
  (∀ e : ℤ, -300 ≤ e → e ≤ 329 → flog2pow10 e = e * 913124641741 / 2 ^ 38)

/-- R12, R16: RecOK is the zero record, or a non-zero F with its number of decimal digits in N. -/
def Obligations.RecordValidityCountsDigits : Prop :=
  ∀ f e n : Word, RecOK f e n ↔
    (f = 0 ∧ e = 0 ∧ n = 0) ∨ (1 ≤ n.toNat ∧ 10 ^ (n.toNat - 1) ≤ f.toNat ∧ f.toNat < 10 ^ n.toNat)

/-- R14, R65, R81, R82: entry k + 324 of the table holds g(k) = floor(beta) + 1 for beta = 10^(-k) * 2^(-r), with
r = floor(log2(10^(-k))) - 125, split at bit 63; so 2^62 <= g1 < 2^63 and g0 < 2^63. -/
def Obligations.TableHoldsScaledPowers : Prop :=
  ∀ k : ℤ, -324 ≤ k → k ≤ 292 →
    ∃ a1 a0 : Word, ∃ r : ℤ, romRead (k + 324).toNat = some (a1, a0) ∧
      (2 : ℚ) ^ (r + 125) ≤ 10 ^ (-k) ∧ (10 : ℚ) ^ (-k) < 2 ^ (r + 126) ∧
      (a1.toNat * 2 ^ 63 + a0.toNat : ℤ) = ⌊(10 : ℚ) ^ (-k) * 2 ^ (-r)⌋ + 1 ∧
      2 ^ 62 ≤ a1.toNat ∧ a1.toNat < 2 ^ 63 ∧ a0.toNat < 2 ^ 63

/-- R83: the checksums of the list, which the spec infers itself ("[derived: from rule R84]"). -/
def Obligations.TableChecksums : Prop :=
  constantTable.length = 617 ∧
  constantTable.foldl (fun acc x => acc ^^^ x.1) 0 = 0x7A44F640C65284D2 ∧
  constantTable.foldl (fun acc x => acc ^^^ x.2) 0 = 0x254880F770BADFE0 ∧
  constantTable.foldl (fun acc x => (acc + x.1.toNat * 2 ^ 63 + x.2.toNat) % 2 ^ 64) 0 = 0x3DA962DB8616C096

/-! ### Boundary unit (41_boundary) -/

/-- R123, said in numbers for each format: the operands KEST and SHORTEST admit. -/
def Obligations.AdmissibleOperandsInNumbers : Prop :=
  ∀ s : State,
    let fmt := s.flags.toNat / 2 ^ 4 % 2
    let dkf := s.flags.toNat / 2 ^ 6 % 2
    let c := s.c.toNat
    let q := s.q.toInt
    operandsOK s ↔
      (fmt = 0 ∧ ((-1074 ≤ q ∧ q ≤ 971 ∧ dkf = 0 ∧ 2 ^ 52 ≤ c ∧ c < 2 ^ 53) ∨ (q = -1074 ∧ dkf = 0 ∧ 3 ≤ c ∧ c < 2 ^ 52) ∨
        (q = -1074 ∧ dkf = 1 ∧ (c = 10 ∨ c = 20)))) ∨
      (fmt = 1 ∧ ((-149 ≤ q ∧ q ≤ 104 ∧ dkf = 0 ∧ 2 ^ 23 ≤ c ∧ c < 2 ^ 24) ∨ (q = -149 ∧ dkf = 0 ∧ 8 ≤ c ∧ c < 2 ^ 23) ∨
        (q = -149 ∧ dkf = 1 ∧ 10 ∣ c ∧ 10 ≤ c ∧ c ≤ 70)))

/-- R26, R23, R22: where the fields of FLAGS, STATUS and CTRL that the other statements name stand. -/
def Obligations.FieldsStandWhereTabled : Prop :=
  ∀ v : Word,
    flagClass v = v.toNat / 2 ^ 1 % 8 ∧ (flagFmt v = true ↔ v.toNat / 2 ^ 4 % 2 = 1) ∧
    (flagInt v = true ↔ v.toNat / 2 ^ 5 % 2 = 1) ∧ (flagDkf v = true ↔ v.toNat / 2 ^ 6 % 2 = 1) ∧
    (flagIrr v = true ↔ v.toNat / 2 ^ 7 % 2 = 1) ∧ (flagUpin v = true ↔ v.toNat / 2 ^ 8 % 2 = 1) ∧
    (flagWpin v = true ↔ v.toNat / 2 ^ 9 % 2 = 1) ∧ (flagUin v = true ↔ v.toNat / 2 ^ 10 % 2 = 1) ∧
    (flagWin v = true ↔ v.toNat / 2 ^ 11 % 2 = 1) ∧ (flagSel v).toNat = v.toNat / 2 ^ 12 % 4 ∧
    (flagTie v = true ↔ v.toNat / 2 ^ 14 % 2 = 1) ∧ (flagCarry v = true ↔ v.toNat / 2 ^ 15 % 2 = 1) ∧
    (statusErr v = true ↔ v.toNat % 2 = 1) ∧ (statusCause v).toNat = v.toNat / 2 ^ 8 % 16 ∧
    (ctrlJdk v = true ↔ v.toNat % 2 = 1)

/-- R124: KEST. irr is the irregular case (C = C_MIN and Q other than Q_MIN, in numbers), k the greatest integer with
10^k <= 2^Q (regular) or 4 * 10^k <= 3 * 2^Q (irregular), and h = Q + r + 2 for the greatest r with 2^r <= 10^(-k). -/
def Obligations.KestEstimatesExponent : Prop :=
  ∀ s : State, statusErr s.status = false → (flagClass s.flags = 1 ∨ flagClass s.flags = 2) → operandsOK s →
    ∃ (t : State) (k r : ℤ),
      let q : ℤ := s.q.toInt
      let irr := if flagFmt s.flags = true then s.c.toNat = 2 ^ 23 ∧ q ≠ -149 else s.c.toNat = 2 ^ 52 ∧ q ≠ -1074
      exec .kest s = .next t ∧ t = { s with k := t.k, h := t.h, flags := t.flags } ∧
      t.k.toInt = k ∧ t.h.toInt = q + r + 2 ∧ (flagIrr t.flags = true ↔ irr) ∧
      (∀ n, n ≠ 7 → t.flags.getLsbD n = s.flags.getLsbD n) ∧
      (¬irr → (10 : ℚ) ^ k ≤ 2 ^ q ∧ (2 : ℚ) ^ q < 10 ^ (k + 1)) ∧
      (irr → 4 * (10 : ℚ) ^ k ≤ 3 * 2 ^ q ∧ 3 * (2 : ℚ) ^ q < 4 * 10 ^ (k + 1)) ∧
      (2 : ℚ) ^ r ≤ 10 ^ (-k) ∧ (10 : ℚ) ^ (-k) < 2 ^ (r + 1)

/-- R124, R213, R215, R217: where KEST faults: BADCLASS on a class other than 1 and 2, before OPRANGE on operands that are not
admissible. -/
def Obligations.KestFaults : Prop :=
  ∀ s : State, statusErr s.status = false →
    (flagClass s.flags ≠ 1 → flagClass s.flags ≠ 2 → ∃ t, exec .kest s = .next t ∧ FaultEntered s t 2 0x20) ∧
    ((flagClass s.flags = 1 ∨ flagClass s.flags = 2) → ¬operandsOK s →
      ∃ t, exec .kest s = .next t ∧ FaultEntered s t 3 0x20)

/-- R125: after a KEST on admissible operands K and H are in the ranges of the format, GLD does not fault, and the operand of
MULR is below 2^61. The spec infers R125 itself ("Found by enumerating every q of both formats, regular and irregular"). -/
def Obligations.KestRangesAreSafe : Prop :=
  ∀ s t : State, statusErr s.status = false → (flagClass s.flags = 1 ∨ flagClass s.flags = 2) → operandsOK s →
    exec .kest s = .next t →
    (flagFmt s.flags = false → -324 ≤ t.k.toInt ∧ t.k.toInt ≤ 292) ∧
    (flagFmt s.flags = true → -45 ≤ t.k.toInt ∧ t.k.toInt ≤ 31) ∧
    2 ≤ t.h.toInt ∧ t.h.toInt ≤ 5 ∧ (4 * t.c.toNat + 2) * 2 ^ t.h.toNat < 2 ^ 61 ∧
    ∃ u, exec .gld t = .next u ∧ u.status = t.status

/-- R127: the word 0x21 is GLD, which loads entry K + 324 for -324 <= K <= 292, and faults with KRANGE on any other K. -/
def Obligations.GldLoadsTableEntry : Prop :=
  decode 0x0000000000000021 = .ok .gld ∧
  ∀ s : State, statusErr s.status = false →
    (-324 ≤ s.k.toInt → s.k.toInt ≤ 292 →
      ∃ a1 a0, romRead (s.k.toInt + 324).toNat = some (a1, a0) ∧ exec .gld s = .next { s with g1 := a1, g0 := a0 }) ∧
    (s.k.toInt < -324 ∨ 292 < s.k.toInt → ∃ t, exec .gld s = .next t ∧ FaultEntered s t 4 0x21)

/-- R15, said without the model's `rop`: with T = floor(a1 cp / 2) + floor(a0 cp / 2^64) it is floor(T / 2^63), with bit 0 set when
T is no multiple of 2^63. That this is R15's pseudocode, and not the prose below it, is log entry 7. -/
def Obligations.RopRoundsToOdd : Prop :=
  ∀ a1 a0 cp : Nat, a1 < 2 ^ 63 → a0 < 2 ^ 63 → cp < 2 ^ 63 →
    let T := a1 * cp / 2 + a0 * cp / 2 ^ 64
    rop a1 a0 cp / 2 = T / 2 ^ 64 ∧
    (T % 2 ^ 63 = 0 → rop a1 a0 cp = T / 2 ^ 63) ∧ (T % 2 ^ 63 ≠ 0 → rop a1 a0 cp % 2 = 1)

/-- R15, R128: rop is below 2^63 on its range and monotone in its third argument. -/
def Obligations.RopIsBoundedAndMonotone : Prop :=
  ∀ a1 a0 x y : Nat, a1 < 2 ^ 63 → a0 < 2 ^ 63 → y < 2 ^ 63 → x ≤ y →
    rop a1 a0 x ≤ rop a1 a0 y ∧ rop a1 a0 y < 2 ^ 63

/-- R128: the word 0x22 is MULR, which on operands in the range of rop writes the three products, given here by R15's value
and not by the model's `rop`; they satisfy VBL <= VB <= VBR and lie below 2^63. -/
def Obligations.MulrMultipliesBoundaries : Prop :=
  decode 0x0000000000000022 = .ok .mulr ∧
  ∀ s : State, statusErr s.status = false →
    s.c ≠ 0 → 0 ≤ s.h.toInt → s.h.toInt ≤ 63 → (4 * s.c.toNat + 2) * 2 ^ s.h.toNat < 2 ^ 63 →
    s.g1.toNat < 2 ^ 63 → s.g0.toNat < 2 ^ 63 →
    let scaled : Nat → Nat := fun x => s.g1.toNat * (x * 2 ^ s.h.toNat) / 2 + s.g0.toNat * (x * 2 ^ s.h.toNat) / 2 ^ 64
    let product : Nat → Nat := fun x => scaled x / 2 ^ 63 ||| (if scaled x % 2 ^ 63 = 0 then 0 else 1)
    ∃ t, exec .mulr s = .next t ∧ t = { s with vb := t.vb, vbl := t.vbl, vbr := t.vbr } ∧
      t.vb.toNat = product (4 * s.c.toNat) ∧
      t.vbl.toNat = product (if s.flags.getLsbD 7 = true then 4 * s.c.toNat - 1 else 4 * s.c.toNat - 2) ∧
      t.vbr.toNat = product (4 * s.c.toNat + 2) ∧
      t.vbl.toNat ≤ t.vb.toNat ∧ t.vb.toNat ≤ t.vbr.toNat ∧ t.vbr.toNat < 2 ^ 63

/-- R128, R217: where MULR faults, and that it completes everywhere else. -/
def Obligations.MulrFaultsOutsideRange : Prop :=
  ∀ s : State, statusErr s.status = false →
    let outside := s.c = 0 ∨ s.h.toInt < 0 ∨ 63 < s.h.toInt ∨ 2 ^ 63 ≤ (4 * s.c.toNat + 2) * 2 ^ s.h.toNat ∨
      2 ^ 63 ≤ s.g1.toNat ∨ 2 ^ 63 ≤ s.g0.toNat
    (outside → ∃ t, exec .mulr s = .next t ∧ FaultEntered s t 3 0x22) ∧
    (¬outside → ∃ t, exec .mulr s = .next t ∧ t.status = s.status ∧ t.einfo = s.einfo)

/-- R130, R132, R133: the word 0x23 is BSEL, on any register contents. With out = C[0], s0 = VB div 4 and its coarse neighbours, the four tests,
the code of the candidate taken, the tie, the record E = K + DK of the candidate, and the frame. -/
def Obligations.BselPicksCandidate : Prop :=
  decode 0x0000000000000023 = .ok .bsel ∧ ∀ s : State, statusErr s.status = false →
    ∃ (t : State) (cand : Nat),
      let out := s.c.toNat % 2
      let vb := s.vb.toNat
      let s0 := vb / 4
      let sp := 10 * (s0 / 10)
      let tp := sp + 10
      let decided := flagUpin t.flags ≠ flagWpin t.flags
      exec .bsel s = .next t ∧ t = { s with f := t.f, e := t.e, n := t.n, flags := t.flags } ∧
      (∀ j, j < 8 ∨ 15 ≤ j → t.flags.getLsbD j = s.flags.getLsbD j) ∧
      (flagUpin t.flags = true ↔ 100 ≤ s0 ∧ s.vbl.toNat + out ≤ 4 * sp) ∧
      (flagWpin t.flags = true ↔ 100 ≤ s0 ∧ 4 * tp + out ≤ s.vbr.toNat) ∧
      (flagUin t.flags = true ↔ ¬decided ∧ s.vbl.toNat + out ≤ 4 * s0) ∧
      (flagWin t.flags = true ↔ ¬decided ∧ 4 * (s0 + 1) + out ≤ s.vbr.toNat) ∧
      (flagTie t.flags = true ↔ ¬decided ∧ flagUin t.flags = flagWin t.flags ∧ vb = 4 * s0 + 2) ∧
      (decided → flagSel t.flags = if flagUpin t.flags = true then 2 else 3) ∧
      (¬decided → flagUin t.flags ≠ flagWin t.flags → flagSel t.flags = if flagUin t.flags = true then 0 else 1) ∧
      (¬decided → flagUin t.flags = flagWin t.flags →
        flagSel t.flags = if vb < 4 * s0 + 2 ∨ (vb = 4 * s0 + 2 ∧ s0 % 2 = 0) then 0 else 1) ∧
      cand = (if flagSel t.flags = 0 then s0 else if flagSel t.flags = 1 then s0 + 1
        else if flagSel t.flags = 2 then sp else tp) ∧
      (cand = 0 → t.f = 0 ∧ t.e = 0 ∧ t.n = 0) ∧
      (cand ≠ 0 → t.f.toNat = cand ∧ t.e = s.k - (if flagDkf s.flags = true then 1 else 0) ∧
        10 ^ (t.n.toNat - 1) ≤ cand ∧ cand < 10 ^ t.n.toNat)

/-- R134: SHORTEST on class Zero gives the zero record whatever C, Q, INT and DKF are. -/
def Obligations.ShortestOnZero : Prop :=
  ∀ s : State, statusErr s.status = false → flagClass s.flags = 0 →
    exec .shortest s = .next { s with f := 0, e := 0, n := 0 }

/-- R134, R107: the fast path of SHORTEST, on R134's conditions in numbers (P = 53 or 24 by FLAGS.FMT, C_MIN = 2^(P-1),
C_MAX = 2^P - 1): the integer C div 2^(-Q), stripped of its trailing zeros. -/
def Obligations.ShortestFastPath : Prop :=
  ∀ s : State, statusErr s.status = false → flagInt s.flags = true →
    let p : Nat := if s.flags.getLsbD 4 = true then 24 else 53
    flagClass s.flags = 2 → flagDkf s.flags = false → 2 ^ (p - 1) ≤ s.c.toNat → s.c.toNat ≤ 2 ^ p - 1 →
    0 < -s.q.toInt → -s.q.toInt < p → s.c.toNat % 2 ^ (-s.q.toInt).toNat = 0 →
    ∃ (f n z : Nat), exec .shortest s = .next { s with f := word f, e := word z, n := word n } ∧
      f * 10 ^ z * 2 ^ (-s.q.toInt).toNat = s.c.toNat ∧ f < 2 ^ 53 ∧ z < 20 ∧ n < 20 ∧ Canonical f n

/-- R134: the general path of SHORTEST completes and leaves what KEST, GLD, MULR, BSEL, DNORM leave one after another. That GLD
and MULR cannot fault on it is R125, and that the commands one after another leave the same is R135; the spec infers both itself
("[derived: from rule R124 and rule R13]", "[derived: from rule R134]"). -/
def Obligations.ShortestGeneralPath : Prop :=
  ∀ s : State, statusErr s.status = false → (flagClass s.flags = 1 ∨ flagClass s.flags = 2) → flagInt s.flags = false →
    operandsOK s →
    ∃ t1 t2 t3 t4 t5, exec .kest s = .next t1 ∧ exec .gld t1 = .next t2 ∧ exec .mulr t2 = .next t3 ∧
      exec .bsel t3 = .next t4 ∧ exec .dnorm t4 = .next t5 ∧ exec .shortest s = .next t5 ∧
      t5.status = s.status ∧ t5.einfo = s.einfo

/-- R134, R213, R217: where SHORTEST faults: BADCLASS on the classes 3 to 7, before OPRANGE on operands its path does not
admit; the conditions of the fast path are R134's in numbers (P = 53 or 24 by FLAGS.FMT). -/
def Obligations.ShortestFaults : Prop :=
  ∀ s : State, statusErr s.status = false →
    let p : Nat := if s.flags.getLsbD 4 = true then 24 else 53
    let fast := flagClass s.flags = 2 ∧ flagDkf s.flags = false ∧ 2 ^ (p - 1) ≤ s.c.toNat ∧ s.c.toNat ≤ 2 ^ p - 1 ∧
      0 < -s.q.toInt ∧ -s.q.toInt < p ∧ s.c.toNat % 2 ^ (-s.q.toInt).toNat = 0
    (3 ≤ flagClass s.flags → ∃ t, exec .shortest s = .next t ∧ FaultEntered s t 2 0x24) ∧
    ((flagClass s.flags = 1 ∨ flagClass s.flags = 2) → flagInt s.flags = true → ¬fast →
      ∃ t, exec .shortest s = .next t ∧ FaultEntered s t 3 0x24) ∧
    ((flagClass s.flags = 1 ∨ flagClass s.flags = 2) → flagInt s.flags = false → ¬operandsOK s →
      ∃ t, exec .shortest s = .next t ∧ FaultEntered s t 3 0x24)

/-- R135: with class 1 or 2 and INT = 0, the five step commands leave every register and flag as SHORTEST does, and fault exactly
when it does, with the same cause; only EINFO then differs, 0x20 and 0x24. The spec infers R135 itself ("[derived: from rule R134]"). -/
def Obligations.StepwiseEqualsShortest : Prop :=
  ∀ s : State, statusErr s.status = false → (flagClass s.flags = 1 ∨ flagClass s.flags = 2) → flagInt s.flags = false →
    ∃ t u, execAll [.kest, .gld, .mulr, .bsel, .dnorm] s = .next t ∧ exec .shortest s = .next u ∧
      u = { t with einfo := u.einfo } ∧ (statusErr t.status = false → u = t) ∧
      (statusErr t.status = true → t.einfo = 0x20 ∧ u.einfo = 0x24)

/-- R134: the record SHORTEST leaves is canonical. -/
def Obligations.ShortestRecordIsCanonical : Prop :=
  ∀ s t : State, statusErr s.status = false → exec .shortest s = .next t → statusErr t.status = false →
    (t.f = 0 ∧ t.e = 0 ∧ t.n = 0) ∨ Canonical t.f.toNat t.n.toNat

/-! ### Digit unit (42_digits) -/

/-- R151, R152: the word 0x30 is DNORM, which keeps the value, leaves no trailing zero and recounts N; the zero record is
normalised. -/
def Obligations.DnormStripsZeros : Prop :=
  decode 0x0000000000000030 = .ok .dnorm ∧ ∀ s : State, statusErr s.status = false →
    ∃ t, exec .dnorm s = .next t ∧ t = { s with f := t.f, e := t.e, n := t.n } ∧
      (s.f = 0 → t.f = 0 ∧ t.e = 0 ∧ t.n = 0) ∧
      (s.f ≠ 0 → ∃ z : Nat, s.f.toNat = t.f.toNat * 10 ^ z ∧ t.e = s.e + word z ∧ Canonical t.f.toNat t.n.toNat)

/-- R153, R154, R41: the word 0x31 is DIGITS, which writes digit i of F in bits 4i+3:4i of DIGLO, digits 16 to 19 likewise in DIGHI with bits 63:16
zero, and the number of digits of F in N. -/
def Obligations.DigitsExtractsBcd : Prop :=
  decode 0x0000000000000031 = .ok .digits ∧ ∀ s : State, statusErr s.status = false →
    ∃ t, exec .digits s = .next t ∧ t = { s with diglo := t.diglo, dighi := t.dighi, n := t.n } ∧
      (∀ i, i < 16 → (t.diglo.extractLsb' (4 * i) 4).toNat = s.f.toNat / 10 ^ i % 10) ∧
      (∀ i, 16 ≤ i → i < 20 → (t.dighi.extractLsb' (4 * (i - 16)) 4).toNat = s.f.toNat / 10 ^ i % 10) ∧
      t.dighi.toNat < 2 ^ 16 ∧ s.f.toNat < 10 ^ t.n.toNat ∧ t.n.toNat ≤ 20 ∧
      (s.f = 0 → t.n = 0) ∧ (s.f ≠ 0 → 10 ^ (t.n.toNat - 1) ≤ s.f.toNat)

/-- R157: the word 0x32 is PCALC: on a valid record P is N + E + PREC modulo 2^64; on another it faults with BADREC. -/
def Obligations.PcalcAddsPrecision : Prop :=
  decode 0x0000000000000032 = .ok .pcalc ∧
  ∀ s : State, statusErr s.status = false →
    (recordOK s → ∃ t, exec .pcalc s = .next t ∧ t = { s with p := t.p } ∧
      (t.p.toInt - (s.n.toNat + s.e.toInt + s.prec.toInt)) % 2 ^ 64 = 0) ∧
    (¬recordOK s → ∃ t, exec .pcalc s = .next t ∧ FaultEntered s t 5 0x32)

/-- R158, R159, R160: RNDP on a valid record. For 0 <= p < n, f2 = floor(F / 10^(n-p) + 1/2) and e2 = E + (n - p); the carry
f2 = 10^p is written by the mode of CTRL.JDK. -/
def Obligations.RndpRoundsHalfUp : Prop :=
  ∀ s : State, statusErr s.status = false → recordOK s →
    ∃ t, exec .rndp s = .next t ∧ t = { s with f := t.f, e := t.e, n := t.n, flags := t.flags } ∧
      (∀ j, j ≠ 15 → t.flags.getLsbD j = s.flags.getLsbD j) ∧
      (s.f = 0 ∨ s.p.toInt < 0 → t.f = 0 ∧ t.e = 0 ∧ t.n = 0 ∧ flagCarry t.flags = false) ∧
      (s.f ≠ 0 → (s.n.toNat : ℤ) ≤ s.p.toInt → t.f = s.f ∧ t.e = s.e ∧ t.n = s.n ∧ flagCarry t.flags = false) ∧
      (s.f ≠ 0 → 0 ≤ s.p.toInt → s.p.toInt < s.n.toNat →
        let p := s.p.toNat
        let m := s.n.toNat - p
        let f2 := (2 * s.f.toNat + 10 ^ m) / (2 * 10 ^ m)
        (f2 = 0 → t.f = 0 ∧ t.e = 0 ∧ t.n = 0) ∧
        (flagCarry t.flags = true ↔ f2 = 10 ^ p) ∧
        (f2 ≠ 0 → f2 ≠ 10 ^ p → t.f.toNat = f2 ∧ t.e = s.e + word m ∧ t.n.toNat = p) ∧
        (f2 = 10 ^ p → s.ctrl.getLsbD 0 = true → 1 ≤ p →
          t.f.toNat = 10 ^ (p - 1) ∧ t.e = s.e + word (m + 1) ∧ t.n.toNat = p) ∧
        (f2 = 10 ^ p → s.ctrl.getLsbD 0 = false ∨ p = 0 →
          t.f.toNat = 10 ^ p ∧ t.e = s.e + word m ∧ t.n.toNat = p + 1))

/-- R160, R219: the word 0x33 is RNDP, which faults with BADREC on an invalid record, and there only; DNORM repairs any
record. -/
def Obligations.InvalidRecordFaultsRndp : Prop :=
  decode 0x0000000000000033 = .ok .rndp ∧
  ∀ s : State, statusErr s.status = false →
    (¬recordOK s → ∃ t, exec .rndp s = .next t ∧ FaultEntered s t 5 0x33) ∧
    (recordOK s → ∃ t, exec .rndp s = .next t ∧ t.status = s.status ∧ t.einfo = s.einfo) ∧
    (∃ t, exec .dnorm s = .next t ∧ recordOK t)

/-- R161: after RNDP on a valid record the record is valid, N has not grown, and unless the result is zero N is p or p + 1 for
0 <= p < n and unchanged for p >= n. The spec infers R161 itself ("[derived: from rule R158]"). -/
def Obligations.RndpKeepsRecordValid : Prop :=
  ∀ s t : State, statusErr s.status = false → recordOK s → exec .rndp s = .next t →
    recordOK t ∧ t.n.toNat ≤ s.n.toNat ∧
    (t.f ≠ 0 → 0 ≤ s.p.toInt → s.p.toInt < s.n.toNat → (t.n.toNat : ℤ) = s.p.toInt ∨ (t.n.toNat : ℤ) = s.p.toInt + 1) ∧
    (t.f ≠ 0 → (s.n.toNat : ℤ) ≤ s.p.toInt → t.n = s.n)

/-- R159: the two carry modes denote the same value: RNDP in the consistent mode and in the JDK mode give the same record, or the
JDK record has one digit fewer and an exponent one higher. -/
def Obligations.CarryModesDenoteSameValue : Prop :=
  ∀ s : State, statusErr s.status = false → recordOK s →
    ∃ t u, exec .rndp { s with ctrl := 0 } = .next t ∧ exec .rndp { s with ctrl := 1 } = .next u ∧ t.flags = u.flags ∧
      ((t.f = u.f ∧ t.e = u.e ∧ t.n = u.n) ∨
       (t.f.toNat = 10 * u.f.toNat ∧ u.e = t.e + 1 ∧ t.n = u.n + 1 ∧ flagCarry t.flags = true))

/-- R38, R219: a BSEL, SHORTEST, DNORM or RNDP that completes leaves a valid record, and so does DIGITS unless F = 0 and
E != 0. -/
def Obligations.CommandsLeaveValidRecord : Prop :=
  ∀ (i : Instr) (s t : State), i ∈ [Instr.bsel, .shortest, .dnorm, .rndp, .digits] →
    statusErr s.status = false → exec i s = .next t → statusErr t.status = false →
    (i = .digits → ¬(s.f = 0 ∧ s.e ≠ 0)) → recordOK t

/-! ### The whole machine -/

/-- R45, R214: a command either faults from the state before it, writing STATUS and EINFO only, or changes no bit outside those
R45 lists for it; no command touches the host port. The spec infers R45's table itself ("[derived: from the rule of each
command]"). -/
def Obligations.CommandsWriteOnlyTheirRegisters : Prop :=
  ∀ (i : Instr) (s t : State), exec i s = .next t →
    t.pending = s.pending ∧ t.observed = s.observed ∧
    ((∃ x : Cause, FaultEntered s t (causeCode x) (encode i)) ∨
     ∀ r, t.content r &&& ~~~(writeMask i r) = s.content r &&& ~~~(writeMask i r))

/-- R45: what a command does depends on nothing but the bits R45 lists for it and the gate: from two states that agree on them,
each bit of each register is either left alone in both runs or ends the same in both. The spec infers R45's table itself
("[derived: from the rule of each command]"). -/
def Obligations.CommandsReadOnlyTheirRegisters : Prop :=
  ∀ (i : Instr) (s s' t t' : State),
    statusErr s.status = statusErr s'.status →
    (∀ r, s.content r &&& readMask i r = s'.content r &&& readMask i r) →
    exec i s = .next t → exec i s' = .next t' →
    ∀ r j, ((t.content r).getLsbD j = (s.content r).getLsbD j ∧ (t'.content r).getLsbD j = (s'.content r).getLsbD j) ∨
      (t.content r).getLsbD j = (t'.content r).getLsbD j

/-- R211, R214: the causes: a command that starts with no fault standing and leaves one is KEST, GLD, MULR, SHORTEST, PCALC or
RNDP, with a cause R211 gives it; the others never fault. -/
def Obligations.FaultCausesAreTabled : Prop :=
  ∀ (i : Instr) (s t : State), statusErr s.status = false → exec i s = .next t → statusErr t.status = true →
    ∃ x : Cause, FaultEntered s t (causeCode x) (encode i) ∧
      (i, x) ∈ [(Instr.kest, Cause.badclass), (.kest, .oprange), (.gld, .krange), (.mulr, .oprange),
        (.shortest, .badclass), (.shortest, .oprange), (.pcalc, .badrec), (.rndp, .badrec)]

/-- R22, R23, R25, R26, R211: the invariant holds at reset. -/
def Obligations.ResetMeetsInvariant : Prop :=
  Inv State.reset

/-- R22, R23, R25, R26, R211: every step keeps the invariant: reserved bits stay 0; CAUSE and EINFO are 0 unless a fault stands,
and then EINFO is a word that can have raised the cause recorded. -/
def Obligations.StepKeepsInvariant : Prop :=
  ∀ s t : State, Inv s → step s = .next t → Inv t
end

