-- ==== Sys2Proof/Laws/Numeric.lean ====
section
/-! SUPPORT. What the integer primitives count (Machine/Numeric.lean). -/

namespace Sys2Proof.Machine

/-- With fuel enough, `countDigits` is at most j exactly when x < base^j. -/
theorem countDigits_le_iff {base : Nat} (hb : 2 ≤ base) (fuel x j : Nat) (hx : x ≤ fuel) :
    countDigits base fuel x ≤ j ↔ x < base ^ j := by
  induction fuel generalizing x j with
  | zero =>
    obtain rfl : x = 0 := by omega
    simp [countDigits, Nat.pow_pos (show 0 < base by omega)]
  | succ fuel ih =>
    by_cases h0 : x = 0
    · simp [countDigits, h0, Nat.pow_pos (show 0 < base by omega)]
    · have hlt : x / base ≤ fuel := by
        have := Nat.div_lt_self (Nat.pos_of_ne_zero h0) (show 1 < base by omega)
        omega
      cases j with
      | zero => simp [countDigits, h0]
      | succ j =>
        simp only [countDigits, if_neg h0, Nat.add_le_add_iff_right]
        rw [ih _ _ hlt, Nat.pow_succ, Nat.div_lt_iff_lt_mul (by omega)]

/-- `digitCount base x` is at most j exactly when x < base^j: it is the least such j. -/
theorem digitCount_le_iff {base : Nat} (hb : 2 ≤ base) (x j : Nat) : digitCount base x ≤ j ↔ x < base ^ j :=
  countDigits_le_iff hb x x j le_rfl

/-- `len10 x` is the least j with x < 10^j. -/
theorem len10_le_iff (x j : Nat) : len10 x ≤ j ↔ x < 10 ^ j := digitCount_le_iff (by decide) x j

/-- The greatest integer k with base^k <= num / den, as the comparison of exact rationals. -/
theorem le_floorLog_iff {base num den : Nat} (hb : 2 ≤ base) (hn : 0 < num) (hd : 0 < den) (k : ℤ) :
    k ≤ floorLog base num den ↔ (base : ℚ) ^ k * den ≤ num := by
  have hb1 : (1 : ℚ) < base := by exact_mod_cast (show 1 < base by omega)
  have hb0 : (0 : ℚ) < base := by linarith
  have hdq : (0 : ℚ) < den := by exact_mod_cast hd
  unfold floorLog
  by_cases h : den ≤ num
  · rw [if_pos h]
    have h1 : 1 ≤ digitCount base (num / den) := by
      have := digitCount_le_iff hb (num / den) 0
      have : ¬num / den < 1 := by have := Nat.div_pos h hd; omega
      simp at *; omega
    obtain ⟨m, rfl | rfl⟩ := Int.eq_nat_or_neg k
    · have := digitCount_le_iff hb (num / den) m
      rw [Nat.div_lt_iff_lt_mul hd] at this
      have e : (base : ℚ) ^ (m : ℤ) * den ≤ num ↔ base ^ m * den ≤ num := by
        rw [zpow_natCast]; exact_mod_cast Iff.rfl
      rw [e]; omega
    · have e : (base : ℚ) ^ (-(m : ℤ)) * den ≤ num := by
        have h2 : (base : ℚ) ^ (-(m : ℤ)) ≤ 1 := zpow_le_one_of_nonpos₀ hb1.le (by omega)
        have h3 : (den : ℚ) ≤ num := by exact_mod_cast h
        nlinarith
      exact ⟨fun _ => e, fun _ => by omega⟩
  · rw [if_neg h]
    have h1 : 1 ≤ digitCount base ((den - 1) / num) := by
      have := digitCount_le_iff hb ((den - 1) / num) 0
      have : ¬(den - 1) / num < 1 := by have := Nat.div_pos (show num ≤ den - 1 by omega) hn; omega
      simp at *; omega
    obtain ⟨m, rfl | rfl⟩ := Int.eq_nat_or_neg k
    · have e : ¬(base : ℚ) ^ (m : ℤ) * den ≤ num := by
        have h2 : (1 : ℚ) ≤ (base : ℚ) ^ (m : ℤ) := one_le_zpow₀ hb1.le (by omega)
        have h3 : (num : ℚ) < den := by exact_mod_cast (not_le.mp h)
        nlinarith
      exact ⟨fun _ => by omega, fun h => absurd h e⟩
    · have := digitCount_le_iff hb ((den - 1) / num) m
      rw [Nat.div_lt_iff_lt_mul hn] at this
      have e : (base : ℚ) ^ (-(m : ℤ)) * den ≤ num ↔ den ≤ base ^ m * num := by
        rw [zpow_neg, zpow_natCast, inv_mul_le_iff₀ (by positivity)]; exact_mod_cast Iff.rfl
      rw [e]; omega

/-- With fuel enough, the counted zeros of x > 0 are all its trailing zeros. -/
theorem countZeros_spec (fuel x : Nat) (h0 : 0 < x) (hx : x ≤ fuel) :
    10 ^ countZeros fuel x ∣ x ∧ ¬10 ∣ x / 10 ^ countZeros fuel x := by
  induction fuel generalizing x with
  | zero => omega
  | succ fuel ih =>
    by_cases h : x % 10 = 0
    · obtain ⟨y, rfl⟩ : 10 ∣ x := Nat.dvd_of_mod_eq_zero h
      have hy := ih y (by omega) (by omega)
      simp only [countZeros, h, if_true, Nat.mul_div_cancel_left y (show 0 < 10 by decide)]
      refine ⟨?_, ?_⟩
      · rw [Nat.pow_succ, Nat.mul_comm]
        exact Nat.mul_dvd_mul_left 10 hy.1
      · rw [Nat.pow_succ, Nat.mul_comm 10 y, Nat.mul_div_mul_right _ _ (show 0 < 10 by decide)]
        exact hy.2
    · simp only [countZeros, if_neg h, Nat.pow_zero, Nat.div_one]
      exact ⟨one_dvd x, fun hd => h (Nat.mod_eq_zero_of_dvd hd)⟩

/-- `tz10 x` is the number of trailing decimal zeros of x > 0. -/
theorem tz10_spec (x : Nat) (h0 : 0 < x) : 10 ^ tz10 x ∣ x ∧ ¬10 ∣ x / 10 ^ tz10 x := countZeros_spec x x h0 le_rfl

/-- `word` of a value below 2^64 has that value. -/
theorem toNat_word (x : Nat) (h : x < 2 ^ 64) : (word x).toNat = x := by
  rw [word, BitVec.toNat_ofNat, Nat.mod_eq_of_lt h]

/-- `word` undoes reading a register. -/
@[simp] theorem word_toNat (v : Word) : word v.toNat = v := by simp [word]

/-- `u64` undoes the signed reading of a register. -/
@[simp] theorem u64_s64 (v : Word) : u64 (s64 v) = v := by simp [u64, s64]

end Sys2Proof.Machine
end

