-- ==== Sys2Proof/Laws/Flags.lean ====
section
/-! SUPPORT. Reading a bit after a field is written (Machine/Flags.lean). -/

namespace Sys2Proof.Machine

/-- A bit of a word after a field of it is written: the field's own bit inside the field, the old bit outside. -/
theorem getLsbD_putField (w : Word) (lo : Nat) {n : Nat} (x : BitVec n) (i : Nat) (hn : lo + n ≤ 64) :
    (putField w lo x).getLsbD i = if lo ≤ i ∧ i < lo + n then x.getLsbD (i - lo) else w.getLsbD i := by
  by_cases hi : i < 64
  · by_cases h : lo ≤ i ∧ i < lo + n
    · have h1 : i - lo < n := by omega
      have h2 : ¬i < lo := by omega
      simp [putField, hi, h, h1, h2]
    · rw [if_neg h]
      by_cases h2 : i < lo
      · simp [putField, hi, h2]
      · have h1 : ¬i - lo < n := by omega
        have h3 : x.getLsbD (i - lo) = false := BitVec.getLsbD_of_ge _ _ (by omega)
        simp [putField, hi, h1, h2, h3]
  · have h : ¬(lo ≤ i ∧ i < lo + n) := by omega
    rw [if_neg h, BitVec.getLsbD_of_ge _ _ (by omega), BitVec.getLsbD_of_ge _ _ (by omega)]

/-- A bit of a field. -/
theorem getLsbD_getField (w : Word) (lo n i : Nat) :
    (getField w lo n).getLsbD i = (decide (i < n) && w.getLsbD (lo + i)) := by
  simp [getField]

/-- A field reads as it was written. -/
theorem getField_putField (w : Word) (lo : Nat) {n : Nat} (x : BitVec n) (hn : lo + n ≤ 64) :
    getField (putField w lo x) lo n = x := by
  refine BitVec.eq_of_getLsbD_eq fun i hi => ?_
  rw [getLsbD_getField, getLsbD_putField _ _ _ _ hn, if_pos (by omega)]
  simp [hi]

/-- Writing a field leaves every field outside it as it was. -/
theorem getField_putField_of_disjoint (w : Word) (lo : Nat) {n : Nat} (x : BitVec n) (lo' n' : Nat) (hn : lo + n ≤ 64)
    (h : lo' + n' ≤ lo ∨ lo + n ≤ lo') : getField (putField w lo x) lo' n' = getField w lo' n' := by
  refine BitVec.eq_of_getLsbD_eq fun i hi => ?_
  rw [getLsbD_getField, getLsbD_getField, getLsbD_putField _ _ _ _ hn, if_neg (by omega)]

/-- A fault entry sets ERR. -/
@[simp] theorem statusErr_statusFaulted (v : Word) (x : Cause) : statusErr (statusFaulted v x) = true := by
  rw [statusErr, statusFaulted, getLsbD_putField _ _ _ _ (by decide), if_neg (by decide),
    getLsbD_putField _ _ _ _ (by decide), if_pos (by decide)]
  rfl

/-- A fault entry writes CAUSE. -/
@[simp] theorem statusCause_statusFaulted (v : Word) (x : Cause) : statusCause (statusFaulted v x) = causeCode x :=
  getField_putField _ _ _ (by decide)

/-- `putIrr` by bits. -/
theorem getLsbD_putIrr (v : Word) (b : Bool) (i : Nat) :
    (putIrr v b).getLsbD i = if i = 7 then b else v.getLsbD i := by
  rw [putIrr, getLsbD_putField _ _ _ _ (by decide)]
  by_cases h : i = 7
  · subst h; simp
  · rw [if_neg (by omega), if_neg h]

/-- `putCarry` by bits. -/
theorem getLsbD_putCarry (v : Word) (b : Bool) (i : Nat) :
    (putCarry v b).getLsbD i = if i = 15 then b else v.getLsbD i := by
  rw [putCarry, getLsbD_putField _ _ _ _ (by decide)]
  by_cases h : i = 15
  · subst h; simp
  · rw [if_neg (by omega), if_neg h]

/-- `putTests` by bits. -/
theorem getLsbD_putTests (v : Word) (upin wpin uin win : Bool) (sel : BitVec 2) (tie : Bool) (i : Nat) :
    (putTests v upin wpin uin win sel tie).getLsbD i =
      if i = 14 then tie
      else if 12 ≤ i ∧ i < 14 then sel.getLsbD (i - 12)
      else if i = 11 then win
      else if i = 10 then uin
      else if i = 9 then wpin
      else if i = 8 then upin
      else v.getLsbD i := by
  have bit : ∀ (u : Word) (lo : Nat) (b : Bool), lo + 1 ≤ 64 →
      (putField u lo (BitVec.ofBool b)).getLsbD i = if i = lo then b else u.getLsbD i := by
    intro u lo b hlo
    rw [getLsbD_putField _ _ _ _ hlo]
    by_cases h : i = lo
    · subst h; simp
    · rw [if_neg (by omega), if_neg h]
  simp only [putTests]
  rw [bit _ _ _ (by decide), getLsbD_putField _ _ sel _ (by decide), bit _ _ _ (by decide), bit _ _ _ (by decide),
    bit _ _ _ (by decide), bit _ _ _ (by decide)]

end Sys2Proof.Machine
end

