-- ==== Sys2Proof/Laws/State.lean ====
section
/-! SUPPORT. One lemma for each field and each update of the state (Machine/Ops.lean), so that no proof unfolds a record
update. -/

namespace Sys2Proof.Machine

@[simp] theorem State.raise_ctrl (s : State) (x : Cause) (w : Word) : (s.raise x w).ctrl = s.ctrl := rfl
@[simp] theorem State.raise_status (s : State) (x : Cause) (w : Word) : (s.raise x w).status = statusFaulted s.status x := rfl
@[simp] theorem State.raise_einfo (s : State) (x : Cause) (w : Word) : (s.raise x w).einfo = w := rfl
@[simp] theorem State.raise_flags (s : State) (x : Cause) (w : Word) : (s.raise x w).flags = s.flags := rfl
@[simp] theorem State.raise_bits (s : State) (x : Cause) (w : Word) : (s.raise x w).bits = s.bits := rfl
@[simp] theorem State.raise_c (s : State) (x : Cause) (w : Word) : (s.raise x w).c = s.c := rfl
@[simp] theorem State.raise_q (s : State) (x : Cause) (w : Word) : (s.raise x w).q = s.q := rfl
@[simp] theorem State.raise_k (s : State) (x : Cause) (w : Word) : (s.raise x w).k = s.k := rfl
@[simp] theorem State.raise_h (s : State) (x : Cause) (w : Word) : (s.raise x w).h = s.h := rfl
@[simp] theorem State.raise_g1 (s : State) (x : Cause) (w : Word) : (s.raise x w).g1 = s.g1 := rfl
@[simp] theorem State.raise_g0 (s : State) (x : Cause) (w : Word) : (s.raise x w).g0 = s.g0 := rfl
@[simp] theorem State.raise_vb (s : State) (x : Cause) (w : Word) : (s.raise x w).vb = s.vb := rfl
@[simp] theorem State.raise_vbl (s : State) (x : Cause) (w : Word) : (s.raise x w).vbl = s.vbl := rfl
@[simp] theorem State.raise_vbr (s : State) (x : Cause) (w : Word) : (s.raise x w).vbr = s.vbr := rfl
@[simp] theorem State.raise_f (s : State) (x : Cause) (w : Word) : (s.raise x w).f = s.f := rfl
@[simp] theorem State.raise_e (s : State) (x : Cause) (w : Word) : (s.raise x w).e = s.e := rfl
@[simp] theorem State.raise_n (s : State) (x : Cause) (w : Word) : (s.raise x w).n = s.n := rfl
@[simp] theorem State.raise_prec (s : State) (x : Cause) (w : Word) : (s.raise x w).prec = s.prec := rfl
@[simp] theorem State.raise_p (s : State) (x : Cause) (w : Word) : (s.raise x w).p = s.p := rfl
@[simp] theorem State.raise_diglo (s : State) (x : Cause) (w : Word) : (s.raise x w).diglo = s.diglo := rfl
@[simp] theorem State.raise_dighi (s : State) (x : Cause) (w : Word) : (s.raise x w).dighi = s.dighi := rfl
@[simp] theorem State.raise_pending (s : State) (x : Cause) (w : Word) : (s.raise x w).pending = s.pending := rfl
@[simp] theorem State.raise_observed (s : State) (x : Cause) (w : Word) : (s.raise x w).observed = s.observed := rfl

@[simp] theorem State.clearFault_ctrl (s : State) : s.clearFault.ctrl = s.ctrl := rfl
@[simp] theorem State.clearFault_status (s : State) : s.clearFault.status = 0 := rfl
@[simp] theorem State.clearFault_einfo (s : State) : s.clearFault.einfo = 0 := rfl
@[simp] theorem State.clearFault_flags (s : State) : s.clearFault.flags = s.flags := rfl
@[simp] theorem State.clearFault_bits (s : State) : s.clearFault.bits = s.bits := rfl
@[simp] theorem State.clearFault_c (s : State) : s.clearFault.c = s.c := rfl
@[simp] theorem State.clearFault_q (s : State) : s.clearFault.q = s.q := rfl
@[simp] theorem State.clearFault_k (s : State) : s.clearFault.k = s.k := rfl
@[simp] theorem State.clearFault_h (s : State) : s.clearFault.h = s.h := rfl
@[simp] theorem State.clearFault_g1 (s : State) : s.clearFault.g1 = s.g1 := rfl
@[simp] theorem State.clearFault_g0 (s : State) : s.clearFault.g0 = s.g0 := rfl
@[simp] theorem State.clearFault_vb (s : State) : s.clearFault.vb = s.vb := rfl
@[simp] theorem State.clearFault_vbl (s : State) : s.clearFault.vbl = s.vbl := rfl
@[simp] theorem State.clearFault_vbr (s : State) : s.clearFault.vbr = s.vbr := rfl
@[simp] theorem State.clearFault_f (s : State) : s.clearFault.f = s.f := rfl
@[simp] theorem State.clearFault_e (s : State) : s.clearFault.e = s.e := rfl
@[simp] theorem State.clearFault_n (s : State) : s.clearFault.n = s.n := rfl
@[simp] theorem State.clearFault_prec (s : State) : s.clearFault.prec = s.prec := rfl
@[simp] theorem State.clearFault_p (s : State) : s.clearFault.p = s.p := rfl
@[simp] theorem State.clearFault_diglo (s : State) : s.clearFault.diglo = s.diglo := rfl
@[simp] theorem State.clearFault_dighi (s : State) : s.clearFault.dighi = s.dighi := rfl
@[simp] theorem State.clearFault_pending (s : State) : s.clearFault.pending = s.pending := rfl
@[simp] theorem State.clearFault_observed (s : State) : s.clearFault.observed = s.observed := rfl

@[simp] theorem State.resetRegisters_ctrl (s : State) : s.resetRegisters.ctrl = 0 := rfl
@[simp] theorem State.resetRegisters_status (s : State) : s.resetRegisters.status = 0 := rfl
@[simp] theorem State.resetRegisters_einfo (s : State) : s.resetRegisters.einfo = 0 := rfl
@[simp] theorem State.resetRegisters_flags (s : State) : s.resetRegisters.flags = 0 := rfl
@[simp] theorem State.resetRegisters_bits (s : State) : s.resetRegisters.bits = 0 := rfl
@[simp] theorem State.resetRegisters_c (s : State) : s.resetRegisters.c = 0 := rfl
@[simp] theorem State.resetRegisters_q (s : State) : s.resetRegisters.q = 0 := rfl
@[simp] theorem State.resetRegisters_k (s : State) : s.resetRegisters.k = 0 := rfl
@[simp] theorem State.resetRegisters_h (s : State) : s.resetRegisters.h = 0 := rfl
@[simp] theorem State.resetRegisters_g1 (s : State) : s.resetRegisters.g1 = 0 := rfl
@[simp] theorem State.resetRegisters_g0 (s : State) : s.resetRegisters.g0 = 0 := rfl
@[simp] theorem State.resetRegisters_vb (s : State) : s.resetRegisters.vb = 0 := rfl
@[simp] theorem State.resetRegisters_vbl (s : State) : s.resetRegisters.vbl = 0 := rfl
@[simp] theorem State.resetRegisters_vbr (s : State) : s.resetRegisters.vbr = 0 := rfl
@[simp] theorem State.resetRegisters_f (s : State) : s.resetRegisters.f = 0 := rfl
@[simp] theorem State.resetRegisters_e (s : State) : s.resetRegisters.e = 0 := rfl
@[simp] theorem State.resetRegisters_n (s : State) : s.resetRegisters.n = 0 := rfl
@[simp] theorem State.resetRegisters_prec (s : State) : s.resetRegisters.prec = 0 := rfl
@[simp] theorem State.resetRegisters_p (s : State) : s.resetRegisters.p = 0 := rfl
@[simp] theorem State.resetRegisters_diglo (s : State) : s.resetRegisters.diglo = 0 := rfl
@[simp] theorem State.resetRegisters_dighi (s : State) : s.resetRegisters.dighi = 0 := rfl
@[simp] theorem State.resetRegisters_pending (s : State) : s.resetRegisters.pending = s.pending := rfl
@[simp] theorem State.resetRegisters_observed (s : State) : s.resetRegisters.observed = s.observed := rfl

@[simp] theorem State.setDecomposition_ctrl (s : State) (v c q : Word) : (s.setDecomposition v c q).ctrl = s.ctrl := rfl
@[simp] theorem State.setDecomposition_status (s : State) (v c q : Word) : (s.setDecomposition v c q).status = s.status := rfl
@[simp] theorem State.setDecomposition_einfo (s : State) (v c q : Word) : (s.setDecomposition v c q).einfo = s.einfo := rfl
@[simp] theorem State.setDecomposition_flags (s : State) (v c q : Word) : (s.setDecomposition v c q).flags = v := rfl
@[simp] theorem State.setDecomposition_bits (s : State) (v c q : Word) : (s.setDecomposition v c q).bits = s.bits := rfl
@[simp] theorem State.setDecomposition_c (s : State) (v c q : Word) : (s.setDecomposition v c q).c = c := rfl
@[simp] theorem State.setDecomposition_q (s : State) (v c q : Word) : (s.setDecomposition v c q).q = q := rfl
@[simp] theorem State.setDecomposition_k (s : State) (v c q : Word) : (s.setDecomposition v c q).k = s.k := rfl
@[simp] theorem State.setDecomposition_h (s : State) (v c q : Word) : (s.setDecomposition v c q).h = s.h := rfl
@[simp] theorem State.setDecomposition_g1 (s : State) (v c q : Word) : (s.setDecomposition v c q).g1 = s.g1 := rfl
@[simp] theorem State.setDecomposition_g0 (s : State) (v c q : Word) : (s.setDecomposition v c q).g0 = s.g0 := rfl
@[simp] theorem State.setDecomposition_vb (s : State) (v c q : Word) : (s.setDecomposition v c q).vb = s.vb := rfl
@[simp] theorem State.setDecomposition_vbl (s : State) (v c q : Word) : (s.setDecomposition v c q).vbl = s.vbl := rfl
@[simp] theorem State.setDecomposition_vbr (s : State) (v c q : Word) : (s.setDecomposition v c q).vbr = s.vbr := rfl
@[simp] theorem State.setDecomposition_f (s : State) (v c q : Word) : (s.setDecomposition v c q).f = s.f := rfl
@[simp] theorem State.setDecomposition_e (s : State) (v c q : Word) : (s.setDecomposition v c q).e = s.e := rfl
@[simp] theorem State.setDecomposition_n (s : State) (v c q : Word) : (s.setDecomposition v c q).n = s.n := rfl
@[simp] theorem State.setDecomposition_prec (s : State) (v c q : Word) : (s.setDecomposition v c q).prec = s.prec := rfl
@[simp] theorem State.setDecomposition_p (s : State) (v c q : Word) : (s.setDecomposition v c q).p = s.p := rfl
@[simp] theorem State.setDecomposition_diglo (s : State) (v c q : Word) : (s.setDecomposition v c q).diglo = s.diglo := rfl
@[simp] theorem State.setDecomposition_dighi (s : State) (v c q : Word) : (s.setDecomposition v c q).dighi = s.dighi := rfl
@[simp] theorem State.setDecomposition_pending (s : State) (v c q : Word) : (s.setDecomposition v c q).pending = s.pending := rfl
@[simp] theorem State.setDecomposition_observed (s : State) (v c q : Word) : (s.setDecomposition v c q).observed = s.observed := rfl

@[simp] theorem State.setEstimate_ctrl (s : State) (k h : Word) (b : Bool) : (s.setEstimate k h b).ctrl = s.ctrl := rfl
@[simp] theorem State.setEstimate_status (s : State) (k h : Word) (b : Bool) : (s.setEstimate k h b).status = s.status := rfl
@[simp] theorem State.setEstimate_einfo (s : State) (k h : Word) (b : Bool) : (s.setEstimate k h b).einfo = s.einfo := rfl
@[simp] theorem State.setEstimate_flags (s : State) (k h : Word) (b : Bool) : (s.setEstimate k h b).flags = putIrr s.flags b := rfl
@[simp] theorem State.setEstimate_bits (s : State) (k h : Word) (b : Bool) : (s.setEstimate k h b).bits = s.bits := rfl
@[simp] theorem State.setEstimate_c (s : State) (k h : Word) (b : Bool) : (s.setEstimate k h b).c = s.c := rfl
@[simp] theorem State.setEstimate_q (s : State) (k h : Word) (b : Bool) : (s.setEstimate k h b).q = s.q := rfl
@[simp] theorem State.setEstimate_k (s : State) (k h : Word) (b : Bool) : (s.setEstimate k h b).k = k := rfl
@[simp] theorem State.setEstimate_h (s : State) (k h : Word) (b : Bool) : (s.setEstimate k h b).h = h := rfl
@[simp] theorem State.setEstimate_g1 (s : State) (k h : Word) (b : Bool) : (s.setEstimate k h b).g1 = s.g1 := rfl
@[simp] theorem State.setEstimate_g0 (s : State) (k h : Word) (b : Bool) : (s.setEstimate k h b).g0 = s.g0 := rfl
@[simp] theorem State.setEstimate_vb (s : State) (k h : Word) (b : Bool) : (s.setEstimate k h b).vb = s.vb := rfl
@[simp] theorem State.setEstimate_vbl (s : State) (k h : Word) (b : Bool) : (s.setEstimate k h b).vbl = s.vbl := rfl
@[simp] theorem State.setEstimate_vbr (s : State) (k h : Word) (b : Bool) : (s.setEstimate k h b).vbr = s.vbr := rfl
@[simp] theorem State.setEstimate_f (s : State) (k h : Word) (b : Bool) : (s.setEstimate k h b).f = s.f := rfl
@[simp] theorem State.setEstimate_e (s : State) (k h : Word) (b : Bool) : (s.setEstimate k h b).e = s.e := rfl
@[simp] theorem State.setEstimate_n (s : State) (k h : Word) (b : Bool) : (s.setEstimate k h b).n = s.n := rfl
@[simp] theorem State.setEstimate_prec (s : State) (k h : Word) (b : Bool) : (s.setEstimate k h b).prec = s.prec := rfl
@[simp] theorem State.setEstimate_p (s : State) (k h : Word) (b : Bool) : (s.setEstimate k h b).p = s.p := rfl
@[simp] theorem State.setEstimate_diglo (s : State) (k h : Word) (b : Bool) : (s.setEstimate k h b).diglo = s.diglo := rfl
@[simp] theorem State.setEstimate_dighi (s : State) (k h : Word) (b : Bool) : (s.setEstimate k h b).dighi = s.dighi := rfl
@[simp] theorem State.setEstimate_pending (s : State) (k h : Word) (b : Bool) : (s.setEstimate k h b).pending = s.pending := rfl
@[simp] theorem State.setEstimate_observed (s : State) (k h : Word) (b : Bool) : (s.setEstimate k h b).observed = s.observed := rfl

@[simp] theorem State.setEntry_ctrl (s : State) (a b : Word) : (s.setEntry a b).ctrl = s.ctrl := rfl
@[simp] theorem State.setEntry_status (s : State) (a b : Word) : (s.setEntry a b).status = s.status := rfl
@[simp] theorem State.setEntry_einfo (s : State) (a b : Word) : (s.setEntry a b).einfo = s.einfo := rfl
@[simp] theorem State.setEntry_flags (s : State) (a b : Word) : (s.setEntry a b).flags = s.flags := rfl
@[simp] theorem State.setEntry_bits (s : State) (a b : Word) : (s.setEntry a b).bits = s.bits := rfl
@[simp] theorem State.setEntry_c (s : State) (a b : Word) : (s.setEntry a b).c = s.c := rfl
@[simp] theorem State.setEntry_q (s : State) (a b : Word) : (s.setEntry a b).q = s.q := rfl
@[simp] theorem State.setEntry_k (s : State) (a b : Word) : (s.setEntry a b).k = s.k := rfl
@[simp] theorem State.setEntry_h (s : State) (a b : Word) : (s.setEntry a b).h = s.h := rfl
@[simp] theorem State.setEntry_g1 (s : State) (a b : Word) : (s.setEntry a b).g1 = a := rfl
@[simp] theorem State.setEntry_g0 (s : State) (a b : Word) : (s.setEntry a b).g0 = b := rfl
@[simp] theorem State.setEntry_vb (s : State) (a b : Word) : (s.setEntry a b).vb = s.vb := rfl
@[simp] theorem State.setEntry_vbl (s : State) (a b : Word) : (s.setEntry a b).vbl = s.vbl := rfl
@[simp] theorem State.setEntry_vbr (s : State) (a b : Word) : (s.setEntry a b).vbr = s.vbr := rfl
@[simp] theorem State.setEntry_f (s : State) (a b : Word) : (s.setEntry a b).f = s.f := rfl
@[simp] theorem State.setEntry_e (s : State) (a b : Word) : (s.setEntry a b).e = s.e := rfl
@[simp] theorem State.setEntry_n (s : State) (a b : Word) : (s.setEntry a b).n = s.n := rfl
@[simp] theorem State.setEntry_prec (s : State) (a b : Word) : (s.setEntry a b).prec = s.prec := rfl
@[simp] theorem State.setEntry_p (s : State) (a b : Word) : (s.setEntry a b).p = s.p := rfl
@[simp] theorem State.setEntry_diglo (s : State) (a b : Word) : (s.setEntry a b).diglo = s.diglo := rfl
@[simp] theorem State.setEntry_dighi (s : State) (a b : Word) : (s.setEntry a b).dighi = s.dighi := rfl
@[simp] theorem State.setEntry_pending (s : State) (a b : Word) : (s.setEntry a b).pending = s.pending := rfl
@[simp] theorem State.setEntry_observed (s : State) (a b : Word) : (s.setEntry a b).observed = s.observed := rfl

@[simp] theorem State.setProducts_ctrl (s : State) (a b d : Word) : (s.setProducts a b d).ctrl = s.ctrl := rfl
@[simp] theorem State.setProducts_status (s : State) (a b d : Word) : (s.setProducts a b d).status = s.status := rfl
@[simp] theorem State.setProducts_einfo (s : State) (a b d : Word) : (s.setProducts a b d).einfo = s.einfo := rfl
@[simp] theorem State.setProducts_flags (s : State) (a b d : Word) : (s.setProducts a b d).flags = s.flags := rfl
@[simp] theorem State.setProducts_bits (s : State) (a b d : Word) : (s.setProducts a b d).bits = s.bits := rfl
@[simp] theorem State.setProducts_c (s : State) (a b d : Word) : (s.setProducts a b d).c = s.c := rfl
@[simp] theorem State.setProducts_q (s : State) (a b d : Word) : (s.setProducts a b d).q = s.q := rfl
@[simp] theorem State.setProducts_k (s : State) (a b d : Word) : (s.setProducts a b d).k = s.k := rfl
@[simp] theorem State.setProducts_h (s : State) (a b d : Word) : (s.setProducts a b d).h = s.h := rfl
@[simp] theorem State.setProducts_g1 (s : State) (a b d : Word) : (s.setProducts a b d).g1 = s.g1 := rfl
@[simp] theorem State.setProducts_g0 (s : State) (a b d : Word) : (s.setProducts a b d).g0 = s.g0 := rfl
@[simp] theorem State.setProducts_vb (s : State) (a b d : Word) : (s.setProducts a b d).vb = a := rfl
@[simp] theorem State.setProducts_vbl (s : State) (a b d : Word) : (s.setProducts a b d).vbl = b := rfl
@[simp] theorem State.setProducts_vbr (s : State) (a b d : Word) : (s.setProducts a b d).vbr = d := rfl
@[simp] theorem State.setProducts_f (s : State) (a b d : Word) : (s.setProducts a b d).f = s.f := rfl
@[simp] theorem State.setProducts_e (s : State) (a b d : Word) : (s.setProducts a b d).e = s.e := rfl
@[simp] theorem State.setProducts_n (s : State) (a b d : Word) : (s.setProducts a b d).n = s.n := rfl
@[simp] theorem State.setProducts_prec (s : State) (a b d : Word) : (s.setProducts a b d).prec = s.prec := rfl
@[simp] theorem State.setProducts_p (s : State) (a b d : Word) : (s.setProducts a b d).p = s.p := rfl
@[simp] theorem State.setProducts_diglo (s : State) (a b d : Word) : (s.setProducts a b d).diglo = s.diglo := rfl
@[simp] theorem State.setProducts_dighi (s : State) (a b d : Word) : (s.setProducts a b d).dighi = s.dighi := rfl
@[simp] theorem State.setProducts_pending (s : State) (a b d : Word) : (s.setProducts a b d).pending = s.pending := rfl
@[simp] theorem State.setProducts_observed (s : State) (a b d : Word) : (s.setProducts a b d).observed = s.observed := rfl

@[simp] theorem State.setRecord_ctrl (s : State) (f e n : Word) : (s.setRecord f e n).ctrl = s.ctrl := rfl
@[simp] theorem State.setRecord_status (s : State) (f e n : Word) : (s.setRecord f e n).status = s.status := rfl
@[simp] theorem State.setRecord_einfo (s : State) (f e n : Word) : (s.setRecord f e n).einfo = s.einfo := rfl
@[simp] theorem State.setRecord_flags (s : State) (f e n : Word) : (s.setRecord f e n).flags = s.flags := rfl
@[simp] theorem State.setRecord_bits (s : State) (f e n : Word) : (s.setRecord f e n).bits = s.bits := rfl
@[simp] theorem State.setRecord_c (s : State) (f e n : Word) : (s.setRecord f e n).c = s.c := rfl
@[simp] theorem State.setRecord_q (s : State) (f e n : Word) : (s.setRecord f e n).q = s.q := rfl
@[simp] theorem State.setRecord_k (s : State) (f e n : Word) : (s.setRecord f e n).k = s.k := rfl
@[simp] theorem State.setRecord_h (s : State) (f e n : Word) : (s.setRecord f e n).h = s.h := rfl
@[simp] theorem State.setRecord_g1 (s : State) (f e n : Word) : (s.setRecord f e n).g1 = s.g1 := rfl
@[simp] theorem State.setRecord_g0 (s : State) (f e n : Word) : (s.setRecord f e n).g0 = s.g0 := rfl
@[simp] theorem State.setRecord_vb (s : State) (f e n : Word) : (s.setRecord f e n).vb = s.vb := rfl
@[simp] theorem State.setRecord_vbl (s : State) (f e n : Word) : (s.setRecord f e n).vbl = s.vbl := rfl
@[simp] theorem State.setRecord_vbr (s : State) (f e n : Word) : (s.setRecord f e n).vbr = s.vbr := rfl
@[simp] theorem State.setRecord_f (s : State) (f e n : Word) : (s.setRecord f e n).f = f := rfl
@[simp] theorem State.setRecord_e (s : State) (f e n : Word) : (s.setRecord f e n).e = e := rfl
@[simp] theorem State.setRecord_n (s : State) (f e n : Word) : (s.setRecord f e n).n = n := rfl
@[simp] theorem State.setRecord_prec (s : State) (f e n : Word) : (s.setRecord f e n).prec = s.prec := rfl
@[simp] theorem State.setRecord_p (s : State) (f e n : Word) : (s.setRecord f e n).p = s.p := rfl
@[simp] theorem State.setRecord_diglo (s : State) (f e n : Word) : (s.setRecord f e n).diglo = s.diglo := rfl
@[simp] theorem State.setRecord_dighi (s : State) (f e n : Word) : (s.setRecord f e n).dighi = s.dighi := rfl
@[simp] theorem State.setRecord_pending (s : State) (f e n : Word) : (s.setRecord f e n).pending = s.pending := rfl
@[simp] theorem State.setRecord_observed (s : State) (f e n : Word) : (s.setRecord f e n).observed = s.observed := rfl

@[simp] theorem State.setFlags_ctrl (s : State) (v : Word) : (s.setFlags v).ctrl = s.ctrl := rfl
@[simp] theorem State.setFlags_status (s : State) (v : Word) : (s.setFlags v).status = s.status := rfl
@[simp] theorem State.setFlags_einfo (s : State) (v : Word) : (s.setFlags v).einfo = s.einfo := rfl
@[simp] theorem State.setFlags_flags (s : State) (v : Word) : (s.setFlags v).flags = v := rfl
@[simp] theorem State.setFlags_bits (s : State) (v : Word) : (s.setFlags v).bits = s.bits := rfl
@[simp] theorem State.setFlags_c (s : State) (v : Word) : (s.setFlags v).c = s.c := rfl
@[simp] theorem State.setFlags_q (s : State) (v : Word) : (s.setFlags v).q = s.q := rfl
@[simp] theorem State.setFlags_k (s : State) (v : Word) : (s.setFlags v).k = s.k := rfl
@[simp] theorem State.setFlags_h (s : State) (v : Word) : (s.setFlags v).h = s.h := rfl
@[simp] theorem State.setFlags_g1 (s : State) (v : Word) : (s.setFlags v).g1 = s.g1 := rfl
@[simp] theorem State.setFlags_g0 (s : State) (v : Word) : (s.setFlags v).g0 = s.g0 := rfl
@[simp] theorem State.setFlags_vb (s : State) (v : Word) : (s.setFlags v).vb = s.vb := rfl
@[simp] theorem State.setFlags_vbl (s : State) (v : Word) : (s.setFlags v).vbl = s.vbl := rfl
@[simp] theorem State.setFlags_vbr (s : State) (v : Word) : (s.setFlags v).vbr = s.vbr := rfl
@[simp] theorem State.setFlags_f (s : State) (v : Word) : (s.setFlags v).f = s.f := rfl
@[simp] theorem State.setFlags_e (s : State) (v : Word) : (s.setFlags v).e = s.e := rfl
@[simp] theorem State.setFlags_n (s : State) (v : Word) : (s.setFlags v).n = s.n := rfl
@[simp] theorem State.setFlags_prec (s : State) (v : Word) : (s.setFlags v).prec = s.prec := rfl
@[simp] theorem State.setFlags_p (s : State) (v : Word) : (s.setFlags v).p = s.p := rfl
@[simp] theorem State.setFlags_diglo (s : State) (v : Word) : (s.setFlags v).diglo = s.diglo := rfl
@[simp] theorem State.setFlags_dighi (s : State) (v : Word) : (s.setFlags v).dighi = s.dighi := rfl
@[simp] theorem State.setFlags_pending (s : State) (v : Word) : (s.setFlags v).pending = s.pending := rfl
@[simp] theorem State.setFlags_observed (s : State) (v : Word) : (s.setFlags v).observed = s.observed := rfl

@[simp] theorem State.setDigits_ctrl (s : State) (a b n : Word) : (s.setDigits a b n).ctrl = s.ctrl := rfl
@[simp] theorem State.setDigits_status (s : State) (a b n : Word) : (s.setDigits a b n).status = s.status := rfl
@[simp] theorem State.setDigits_einfo (s : State) (a b n : Word) : (s.setDigits a b n).einfo = s.einfo := rfl
@[simp] theorem State.setDigits_flags (s : State) (a b n : Word) : (s.setDigits a b n).flags = s.flags := rfl
@[simp] theorem State.setDigits_bits (s : State) (a b n : Word) : (s.setDigits a b n).bits = s.bits := rfl
@[simp] theorem State.setDigits_c (s : State) (a b n : Word) : (s.setDigits a b n).c = s.c := rfl
@[simp] theorem State.setDigits_q (s : State) (a b n : Word) : (s.setDigits a b n).q = s.q := rfl
@[simp] theorem State.setDigits_k (s : State) (a b n : Word) : (s.setDigits a b n).k = s.k := rfl
@[simp] theorem State.setDigits_h (s : State) (a b n : Word) : (s.setDigits a b n).h = s.h := rfl
@[simp] theorem State.setDigits_g1 (s : State) (a b n : Word) : (s.setDigits a b n).g1 = s.g1 := rfl
@[simp] theorem State.setDigits_g0 (s : State) (a b n : Word) : (s.setDigits a b n).g0 = s.g0 := rfl
@[simp] theorem State.setDigits_vb (s : State) (a b n : Word) : (s.setDigits a b n).vb = s.vb := rfl
@[simp] theorem State.setDigits_vbl (s : State) (a b n : Word) : (s.setDigits a b n).vbl = s.vbl := rfl
@[simp] theorem State.setDigits_vbr (s : State) (a b n : Word) : (s.setDigits a b n).vbr = s.vbr := rfl
@[simp] theorem State.setDigits_f (s : State) (a b n : Word) : (s.setDigits a b n).f = s.f := rfl
@[simp] theorem State.setDigits_e (s : State) (a b n : Word) : (s.setDigits a b n).e = s.e := rfl
@[simp] theorem State.setDigits_n (s : State) (a b n : Word) : (s.setDigits a b n).n = n := rfl
@[simp] theorem State.setDigits_prec (s : State) (a b n : Word) : (s.setDigits a b n).prec = s.prec := rfl
@[simp] theorem State.setDigits_p (s : State) (a b n : Word) : (s.setDigits a b n).p = s.p := rfl
@[simp] theorem State.setDigits_diglo (s : State) (a b n : Word) : (s.setDigits a b n).diglo = a := rfl
@[simp] theorem State.setDigits_dighi (s : State) (a b n : Word) : (s.setDigits a b n).dighi = b := rfl
@[simp] theorem State.setDigits_pending (s : State) (a b n : Word) : (s.setDigits a b n).pending = s.pending := rfl
@[simp] theorem State.setDigits_observed (s : State) (a b n : Word) : (s.setDigits a b n).observed = s.observed := rfl

@[simp] theorem State.setP_ctrl (s : State) (v : Word) : (s.setP v).ctrl = s.ctrl := rfl
@[simp] theorem State.setP_status (s : State) (v : Word) : (s.setP v).status = s.status := rfl
@[simp] theorem State.setP_einfo (s : State) (v : Word) : (s.setP v).einfo = s.einfo := rfl
@[simp] theorem State.setP_flags (s : State) (v : Word) : (s.setP v).flags = s.flags := rfl
@[simp] theorem State.setP_bits (s : State) (v : Word) : (s.setP v).bits = s.bits := rfl
@[simp] theorem State.setP_c (s : State) (v : Word) : (s.setP v).c = s.c := rfl
@[simp] theorem State.setP_q (s : State) (v : Word) : (s.setP v).q = s.q := rfl
@[simp] theorem State.setP_k (s : State) (v : Word) : (s.setP v).k = s.k := rfl
@[simp] theorem State.setP_h (s : State) (v : Word) : (s.setP v).h = s.h := rfl
@[simp] theorem State.setP_g1 (s : State) (v : Word) : (s.setP v).g1 = s.g1 := rfl
@[simp] theorem State.setP_g0 (s : State) (v : Word) : (s.setP v).g0 = s.g0 := rfl
@[simp] theorem State.setP_vb (s : State) (v : Word) : (s.setP v).vb = s.vb := rfl
@[simp] theorem State.setP_vbl (s : State) (v : Word) : (s.setP v).vbl = s.vbl := rfl
@[simp] theorem State.setP_vbr (s : State) (v : Word) : (s.setP v).vbr = s.vbr := rfl
@[simp] theorem State.setP_f (s : State) (v : Word) : (s.setP v).f = s.f := rfl
@[simp] theorem State.setP_e (s : State) (v : Word) : (s.setP v).e = s.e := rfl
@[simp] theorem State.setP_n (s : State) (v : Word) : (s.setP v).n = s.n := rfl
@[simp] theorem State.setP_prec (s : State) (v : Word) : (s.setP v).prec = s.prec := rfl
@[simp] theorem State.setP_p (s : State) (v : Word) : (s.setP v).p = v := rfl
@[simp] theorem State.setP_diglo (s : State) (v : Word) : (s.setP v).diglo = s.diglo := rfl
@[simp] theorem State.setP_dighi (s : State) (v : Word) : (s.setP v).dighi = s.dighi := rfl
@[simp] theorem State.setP_pending (s : State) (v : Word) : (s.setP v).pending = s.pending := rfl
@[simp] theorem State.setP_observed (s : State) (v : Word) : (s.setP v).observed = s.observed := rfl

/-- Two states with the same registers and the same host port are equal. -/
theorem State.eq_of_content {s t : State} (h : ∀ r, s.content r = t.content r) (hp : s.pending = t.pending)
    (ho : s.observed = t.observed) : s = t := by
  cases s
  cases t
  have := h .ctrl; have := h .status; have := h .einfo; have := h .flags; have := h .bits; have := h .c; have := h .q
  have := h .k; have := h .h; have := h .g1; have := h .g0; have := h .vb; have := h .vbl; have := h .vbr
  have := h .f; have := h .e; have := h .n; have := h .prec; have := h .p; have := h .diglo; have := h .dighi
  simp_all [State.content]

end Sys2Proof.Machine
end

