-- ==== Sys2Proof/Laws/Ops.lean ====
section
/-! SUPPORT. Once for each shared operation, everything it can do (Machine/Ops.lean, Machine/HostPort.lean). -/

namespace Sys2Proof.Machine

/-- A gated command while a fault stands. -/
theorem command_of_fault {i : Instr} {body : State → Except Cause State} {s : State} (h : s.faultStands = true) :
    command i body s = s := by
  simp [command, h]

/-- A gated command whose body gives a state. -/
theorem command_of_ok {i : Instr} {body : State → Except Cause State} {s t : State} (h : s.faultStands = false)
    (hb : body s = .ok t) : command i body s = t := by
  simp [command, h, hb]

/-- A gated command whose body gives the cause of a fault. -/
theorem command_of_error {i : Instr} {body : State → Except Cause State} {s : State} {x : Cause}
    (h : s.faultStands = false) (hb : body s = .error x) : command i body s = s.raise x (encode i) := by
  simp [command, h, hb]

/-- Everything a gated command can do: be ignored, complete, or fault from the state before it. -/
theorem command_cases (i : Instr) (body : State → Except Cause State) (s : State) :
    (s.faultStands = true ∧ command i body s = s) ∨
    (s.faultStands = false ∧ ∃ t, body s = .ok t ∧ command i body s = t) ∨
    (s.faultStands = false ∧ ∃ x, body s = .error x ∧ command i body s = s.raise x (encode i)) := by
  cases h : s.faultStands with
  | true => exact .inl ⟨rfl, command_of_fault h⟩
  | false =>
    cases hb : body s with
    | ok t => exact .inr (.inl ⟨rfl, t, rfl, command_of_ok h hb⟩)
    | error x => exact .inr (.inr ⟨rfl, x, rfl, command_of_error h hb⟩)

/-- Everything an illegal word can do. -/
theorem illegalCommand_cases (s : State) (w : Word) :
    (s.faultStands = true ∧ s.illegalCommand w = s) ∨
    (s.faultStands = false ∧ s.illegalCommand w = s.raise .illcmd w) := by
  cases h : s.faultStands <;> simp [State.illegalCommand, h]

/-- Everything a step can do: nothing with an empty port; otherwise it serves the first pending action on the state whose port
has lost it. -/
theorem step_cases (s : State) :
    (s.pending = [] ∧ step s = .next s) ∨
    (∃ a rest, s.pending = a :: rest ∧ step s = serve a { s with pending := rest }) := by
  cases h : s.pending with
  | nil => exact .inl ⟨rfl, by simp [step, deliver, h]⟩
  | cons a rest => exact .inr ⟨a, rest, rfl, by simp [step, deliver, h]⟩

/-- A write to CMD runs the decoded instruction or takes ILLCMD. -/
theorem runCommand_cases (w : Word) (s : State) :
    (∃ i, decode w = .ok i ∧ runCommand w s = exec i s) ∨
    (∃ r, decode w = .error r ∧ runCommand w s = .next (s.illegalCommand w)) := by
  cases h : decode w with
  | ok i => exact .inl ⟨i, rfl, by simp [runCommand, h]⟩
  | error r => exact .inr ⟨r, rfl, by simp [runCommand, h]⟩

/-- A store to one register leaves every other as it was. -/
theorem content_store_of_ne (s : State) {r r' : Reg} (v : Word) (h : r' ≠ r) : (s.store r v).content r' = s.content r' := by
  cases r <;> cases r' <;> first | rfl | exact absurd rfl h

/-- A store touches neither end of the host port. -/
@[simp] theorem store_pending (s : State) (r : Reg) (v : Word) : (s.store r v).pending = s.pending := by cases r <;> rfl

@[simp] theorem store_observed (s : State) (r : Reg) (v : Word) : (s.store r v).observed = s.observed := by cases r <;> rfl

/-- Whatever a command is, it answers a next state. -/
theorem exec_next (i : Instr) (s : State) : ∃ t, exec i s = .next t := by
  cases i <;> exact ⟨_, rfl⟩

end Sys2Proof.Machine
end

