-- ==== Sys2Proof/Laws/Commands.lean ====
section
/-! SUPPORT. Once for each command, everything its body can do: the state it gives and when, and the cause of its fault and when.
Proofs cite these instead of unfolding a body. -/

namespace Sys2Proof.Machine

/-- KEST completes exactly on class 1 or 2 with admissible operands, writing K, H and IRR. -/
theorem kestBody_ok_iff (s t : State) :
    kestBody s = .ok t ↔ (flagClass s.flags = 1 ∨ flagClass s.flags = 2) ∧ operandsOK s ∧
      t = s.setEstimate (u64 (estimateK (formatOf (flagFmt s.flags)) s.c.toNat (s64 s.q)))
        (u64 (shiftH (s64 s.q) (estimateK (formatOf (flagFmt s.flags)) s.c.toNat (s64 s.q))))
        (irregular (formatOf (flagFmt s.flags)) s.c.toNat (s64 s.q)) := by
  unfold kestBody
  by_cases hc : flagClass s.flags = 1 ∨ flagClass s.flags = 2
  · by_cases ho : operandsOK s
    · rw [if_neg (not_not_intro hc), if_neg (not_not_intro ho)]
      exact ⟨fun h => ⟨hc, ho, (Except.ok.inj h).symm⟩, fun h => congrArg _ h.2.2.symm⟩
    · rw [if_neg (not_not_intro hc), if_pos ho]
      exact ⟨fun h => (by cases h), fun h => absurd h.2.1 ho⟩
  · rw [if_pos hc]
    exact ⟨fun h => (by cases h), fun h => absurd h.1 hc⟩

/-- KEST faults with BADCLASS on another class, and with OPRANGE on class 1 or 2 with operands that are not admissible. -/
theorem kestBody_error_iff (s : State) (x : Cause) :
    kestBody s = .error x ↔ (¬(flagClass s.flags = 1 ∨ flagClass s.flags = 2) ∧ x = .badclass) ∨
      ((flagClass s.flags = 1 ∨ flagClass s.flags = 2) ∧ ¬operandsOK s ∧ x = .oprange) := by
  unfold kestBody
  by_cases hc : flagClass s.flags = 1 ∨ flagClass s.flags = 2
  · by_cases ho : operandsOK s
    · rw [if_neg (not_not_intro hc), if_neg (not_not_intro ho)]
      exact ⟨fun h => (by cases h), fun h => h.elim (fun h => absurd hc h.1) (fun h => absurd ho h.2.1)⟩
    · rw [if_neg (not_not_intro hc), if_pos ho]
      exact ⟨fun h => (by cases h; exact .inr ⟨hc, ho, rfl⟩),
        fun h => h.elim (fun h => absurd hc h.1) (fun h => by rw [h.2.2])⟩
  · rw [if_pos hc]
    exact ⟨fun h => (by cases h; exact .inl ⟨hc, rfl⟩), fun h => h.elim (fun h => by rw [h.2]) (fun h => absurd h.1 hc)⟩

/-- Everything the table look-up can do. -/
theorem gldBody_cases (s : State) :
    (∃ a1 a0, kMin ≤ s64 s.k ∧ s64 s.k ≤ kMax ∧ romRead (s64 s.k - kMin).toNat = some (a1, a0) ∧
      gldBody s = .ok (s.setEntry a1 a0)) ∨
    ((s64 s.k < kMin ∨ kMax < s64 s.k ∨ romRead (s64 s.k - kMin).toNat = none) ∧ gldBody s = .error .krange) := by
  unfold gldBody
  by_cases h : s64 s.k < kMin ∨ kMax < s64 s.k
  · rw [if_pos h]
    exact .inr ⟨h.elim .inl (fun h => .inr (.inl h)), rfl⟩
  · rw [if_neg h]
    rw [not_or, not_lt, not_lt] at h
    cases hr : romRead (s64 s.k - kMin).toNat with
    | none => exact .inr ⟨.inr (.inr rfl), rfl⟩
    | some a => exact .inl ⟨a.1, a.2, h.1, h.2, rfl, rfl⟩

/-- Inside the table's range there is an entry. -/
theorem romRead_isSome (i : Nat) (h : i < 617) : ∃ a1 a0, romRead i = some (a1, a0) := by
  have hl : constantTable.length = 617 := by decide +kernel
  exact ⟨(constantTable[i]'(by omega)).1, (constantTable[i]'(by omega)).2, by simp [romRead, hl, h]⟩

/-- GLD completes on every K from -324 to 292. -/
theorem gldBody_ok (s : State) (h1 : -324 ≤ s64 s.k) (h2 : s64 s.k ≤ 292) :
    ∃ a1 a0, romRead (s64 s.k + 324).toNat = some (a1, a0) ∧ gldBody s = .ok (s.setEntry a1 a0) := by
  have e : s64 s.k - kMin = s64 s.k + 324 := by simp [kMin]
  obtain ⟨a1, a0, ha⟩ := romRead_isSome (s64 s.k + 324).toNat (by omega)
  rcases gldBody_cases s with ⟨b1, b0, -, -, hr, hb⟩ | ⟨h, -⟩
  · exact ⟨b1, b0, by rw [← e]; exact hr, hb⟩
  · rw [e, ha] at h
    simp only [kMin, kMax, reduceCtorEq, or_false] at h
    omega

/-- MULR completes exactly on operands in the range of rop. -/
theorem mulrBody_cases (s : State) :
    (mulrOutOfRange s ∧ mulrBody s = .error .oprange) ∨
    (¬mulrOutOfRange s ∧ mulrBody s = .ok (s.setProducts
      (word (rop s.g1.toNat s.g0.toNat (4 * s.c.toNat * 2 ^ s.h.toNat)))
      (word (rop s.g1.toNat s.g0.toNat
        ((if flagIrr s.flags = true then 4 * s.c.toNat - 1 else 4 * s.c.toNat - 2) * 2 ^ s.h.toNat)))
      (word (rop s.g1.toNat s.g0.toNat ((4 * s.c.toNat + 2) * 2 ^ s.h.toNat))))) := by
  unfold mulrBody
  by_cases h : mulrOutOfRange s
  · exact .inl ⟨h, if_pos h⟩
  · exact .inr ⟨h, if_neg h⟩

/-- Stripping writes the record and nothing else: the zero record of f = 0, or f without its trailing zeros. -/
theorem dnormRecord_cases (f : Nat) (e : Int) (s : State) :
    (f = 0 ∧ dnormRecord f e s = s.setRecord 0 0 0) ∨
    (0 < f ∧ dnormRecord f e s =
      s.setRecord (word (f / 10 ^ tz10 f)) (u64 (e + tz10 f)) (word (len10 (f / 10 ^ tz10 f)))) := by
  unfold dnormRecord
  by_cases h : f = 0
  · exact .inl ⟨h, if_pos h⟩
  · exact .inr ⟨by omega, if_neg h⟩

/-- A candidate's record is the zero record or its own digits. -/
theorem candidateRecord_cases (cand : Nat) (s : State) :
    (cand = 0 ∧ candidateRecord cand s = s.setRecord 0 0 0) ∨
    (0 < cand ∧ candidateRecord cand s =
      s.setRecord (word cand) (u64 (s64 s.k + decimalShift s.flags)) (word (len10 cand))) := by
  unfold candidateRecord
  by_cases h : cand = 0
  · exact .inl ⟨h, if_pos h⟩
  · exact .inr ⟨by omega, if_neg h⟩

/-- What BSEL gives, as one update. -/
theorem bselBody_eq (s : State) :
    ∃ f e n, ∃ r : Selection, r = select s.vb.toNat s.vbl.toNat s.vbr.toNat (s.c.toNat % 2) ∧
      bselBody s = .ok ((s.setRecord f e n).setFlags (putTests s.flags r.upin r.wpin r.uin r.win r.sel r.tie)) ∧
      ((r.cand = 0 ∧ f = 0 ∧ e = 0 ∧ n = 0) ∨
       (0 < r.cand ∧ f = word r.cand ∧ e = u64 (s64 s.k + decimalShift s.flags) ∧ n = word (len10 r.cand))) := by
  rcases candidateRecord_cases (select s.vb.toNat s.vbl.toNat s.vbr.toNat (s.c.toNat % 2)).cand s with ⟨h, hc⟩ | ⟨h, hc⟩
  · exact ⟨0, 0, 0, _, rfl, by simp only [bselBody, hc], .inl ⟨h, rfl, rfl, rfl⟩⟩
  · exact ⟨_, _, _, _, rfl, by simp only [bselBody, hc], .inr ⟨h, rfl, rfl, rfl⟩⟩

/-- The general path completes exactly when its five steps do, one after another. -/
theorem generalPath_ok_iff (s t : State) :
    generalPath s = .ok t ↔ ∃ s1 s2 s3 s4, kestBody s = .ok s1 ∧ gldBody s1 = .ok s2 ∧ mulrBody s2 = .ok s3 ∧
      bselBody s3 = .ok s4 ∧ dnormBody s4 = .ok t := by
  unfold generalPath
  cases h1 : kestBody s with
  | error x => simp
  | ok s1 =>
    cases h2 : gldBody s1 with
    | error x => simp [h2]
    | ok s2 =>
      cases h3 : mulrBody s2 with
      | error x => simp [h2, h3]
      | ok s3 =>
        cases h4 : bselBody s3 with
        | error x => simp [h2, h3, h4]
        | ok s4 => simp [h2, h3, h4]

/-- Everything SHORTEST can do before its general path. -/
theorem shortestBody_cases (s : State) :
    (3 ≤ flagClass s.flags ∧ shortestBody s = .error .badclass) ∨
    (flagClass s.flags = 0 ∧ shortestBody s = .ok (s.setRecord 0 0 0)) ∨
    ((flagClass s.flags = 1 ∨ flagClass s.flags = 2) ∧ flagInt s.flags = true ∧ fastPathOK s ∧
      shortestBody s = .ok (dnormRecord (s.c.toNat / 2 ^ (-s64 s.q).toNat) 0 s)) ∨
    ((flagClass s.flags = 1 ∨ flagClass s.flags = 2) ∧ flagInt s.flags = true ∧ ¬fastPathOK s ∧
      shortestBody s = .error .oprange) ∨
    ((flagClass s.flags = 1 ∨ flagClass s.flags = 2) ∧ flagInt s.flags = false ∧ ¬operandsOK s ∧
      shortestBody s = .error .oprange) ∨
    ((flagClass s.flags = 1 ∨ flagClass s.flags = 2) ∧ flagInt s.flags = false ∧ operandsOK s ∧
      shortestBody s = generalPath s) := by
  unfold shortestBody
  by_cases h3 : 3 ≤ flagClass s.flags
  · exact .inl ⟨h3, if_pos h3⟩
  · rw [if_neg h3]
    refine .inr ?_
    by_cases h0 : flagClass s.flags = 0
    · exact .inl ⟨h0, if_pos h0⟩
    · rw [if_neg h0]
      have hc : flagClass s.flags = 1 ∨ flagClass s.flags = 2 := by omega
      refine .inr ?_
      cases hi : flagInt s.flags with
      | true =>
        rw [if_pos rfl]
        by_cases hf : fastPathOK s
        · exact .inl ⟨hc, rfl, hf, if_pos hf⟩
        · exact .inr (.inl ⟨hc, rfl, hf, if_neg hf⟩)
      | false =>
        rw [if_neg Bool.false_ne_true]
        by_cases ho : operandsOK s
        · exact .inr (.inr (.inr ⟨hc, rfl, ho, if_neg (not_not_intro ho)⟩))
        · exact .inr (.inr (.inl ⟨hc, rfl, ho, if_pos ho⟩))

/-- PCALC completes exactly on a valid record. -/
theorem pcalcBody_cases (s : State) :
    (recordOK s ∧ pcalcBody s = .ok (s.setP (u64 (s.n.toNat + s64 s.e + s64 s.prec)))) ∨
    (¬recordOK s ∧ pcalcBody s = .error .badrec) := by
  unfold pcalcBody
  by_cases h : recordOK s
  · exact .inl ⟨h, if_pos h⟩
  · exact .inr ⟨h, if_neg h⟩

/-- RNDP completes exactly on a valid record, writing what `roundRecord` returns. -/
theorem rndpBody_cases (s : State) :
    (recordOK s ∧ ∃ r : Rounded, r = roundRecord s.f.toNat (s64 s.e) s.n.toNat (s64 s.p) (ctrlJdk s.ctrl) ∧
      rndpBody s = .ok ((s.setRecord (word r.f) (u64 r.e) (word r.n)).setFlags (putCarry s.flags r.carry))) ∨
    (¬recordOK s ∧ rndpBody s = .error .badrec) := by
  unfold rndpBody
  by_cases h : recordOK s
  · exact .inl ⟨h, _, rfl, if_pos h⟩
  · exact .inr ⟨h, if_neg h⟩

end Sys2Proof.Machine
end

