-- ==== Sys2Proof/Laws/HostPort.lean ====
section
/-! SUPPORT. The byte lanes of a bus access (Machine/HostPort.lean): which accesses are one whole register, and that the bytes of
a register and the integer of its bytes undo each other. -/

namespace Sys2Proof.Machine

/-- Eight bytes at offset 8 i are register i. -/
@[simp] theorem busIndex_whole (i : Fin 32) : busIndex (8 * i.val) 8 = some i := by
  have h : 8 * i.val / 8 = i.val := by omega
  simp [busIndex, h]

/-- Exactly the accesses that are not one whole aligned register of the 32 name none. -/
theorem busIndex_eq_none_iff (offset width : Nat) :
    busIndex offset width = none ↔ width ≠ 8 ∨ offset % 8 ≠ 0 ∨ 256 ≤ offset := by
  unfold busIndex
  split
  · simp only [reduceCtorEq, false_iff]
    omega
  · simp only [true_iff]
    omega

@[simp] theorem laneBytes_length (v : Word) : (laneBytes v).length = 8 := by simp [laneBytes]

/-- The byte at offset j holds bits 8j+7 to 8j. -/
theorem laneBytes_getElem? (v : Word) (j : Nat) (h : j < 8) : (laneBytes v)[j]? = some (v.extractLsb' (8 * j) 8) := by
  simp [laneBytes, h]

/-- Reading the bytes of a register back gives the register. -/
@[simp] theorem littleEndian_laneBytes (v : Word) : littleEndian (laneBytes v) = v.toNat := by
  have := v.isLt
  simp [laneBytes, List.range, List.range.loop, littleEndian, Nat.shiftRight_eq_div_pow]
  omega

/-- Everything a bus read can do. -/
theorem serve_busRead_cases (offset width : Nat) (s : State) :
    (∃ i, busIndex offset width = some i ∧
      serve (.busRead offset width) s = .next { s with observed := s.observed ++ [.lanes (laneBytes (s.hostRead i))] }) ∨
    (busIndex offset width = none ∧ serve (.busRead offset width) s = .refused .notATransaction) := by
  cases h : busIndex offset width with
  | none => exact .inr ⟨rfl, by simp [serve, h]⟩
  | some i => exact .inl ⟨i, rfl, by simp [serve, h, serveBusRead]⟩

/-- Everything a bus write can do. -/
theorem serve_busWrite_cases (offset : Nat) (bytes : List Byte) (s : State) :
    (∃ i, busIndex offset bytes.length = some i ∧
      serve (.busWrite offset bytes) s = serve (.write i (word (littleEndian bytes))) s) ∨
    (busIndex offset bytes.length = none ∧ serve (.busWrite offset bytes) s = .refused .notATransaction) := by
  cases h : busIndex offset bytes.length with
  | none => exact .inr ⟨rfl, by simp [serve, h]⟩
  | some i => exact .inl ⟨i, rfl, by simp [serve, h]⟩

end Sys2Proof.Machine
end

