-- ==== Sys2Proof/Laws/PerInstr.lean ====
section
/-! SUPPORT. The statement made of every instruction as syntax: its command word is legal and decodes to it (30_encoding R85,
R87, R89). -/

namespace Sys2Proof.Laws

/-- The command word of `i` is legal and decodes to `i`. -/
def Encoding.Statement (i : Instr) : Prop := legalWord (encode i) = true ∧ decode (encode i) = .ok i

theorem Encoding.nop : Encoding.Statement .nop := ⟨by decide, rfl⟩
theorem Encoding.errclr : Encoding.Statement .errclr := ⟨by decide, rfl⟩
theorem Encoding.srst : Encoding.Statement .srst := ⟨by decide, rfl⟩
theorem Encoding.decompD : Encoding.Statement .decompD := ⟨by decide, rfl⟩
theorem Encoding.decompS : Encoding.Statement .decompS := ⟨by decide, rfl⟩
theorem Encoding.kest : Encoding.Statement .kest := ⟨by decide, rfl⟩
theorem Encoding.gld : Encoding.Statement .gld := ⟨by decide, rfl⟩
theorem Encoding.mulr : Encoding.Statement .mulr := ⟨by decide, rfl⟩
theorem Encoding.bsel : Encoding.Statement .bsel := ⟨by decide, rfl⟩
theorem Encoding.shortest : Encoding.Statement .shortest := ⟨by decide, rfl⟩
theorem Encoding.dnorm : Encoding.Statement .dnorm := ⟨by decide, rfl⟩
theorem Encoding.digits : Encoding.Statement .digits := ⟨by decide, rfl⟩
theorem Encoding.pcalc : Encoding.Statement .pcalc := ⟨by decide, rfl⟩
theorem Encoding.rndp : Encoding.Statement .rndp := ⟨by decide, rfl⟩

end Sys2Proof.Laws
end

