-- ==== Sys2Proof/Tests/Slice0.lean ====
section
/-! SUPPORT. Tests. Expected values come from spec/95_test_vectors.md and from the examples in the rules, never from the model.
The theorems test_witness_* show, for each obligation that has hypotheses, states and operands that meet them. -/

namespace Sys2Proof.Machine

set_option Elab.async false

/-! ### Helpers -/

/-- The reset state with some registers written. -/
def loaded (l : List (Reg × Word)) : State := l.foldl (fun s x => s.store x.1 x.2) State.reset

/-- A state in which a KRANGE fault stands. -/
def faulted : State := { State.reset with status := 0x401, einfo := 0x21 }

/-- A state with one host action pending. -/
def facing (s : State) (a : HostAction) : State := { s with pending := [a] }

/-- The next state, if there is one. -/
def landing : Host.Outcome State Fault Refusal → Option State
  | .next t => some t
  | _ => none

/-- The refusal, if it is one. -/
def turnedAway : Host.Outcome State Fault Refusal → Option Refusal
  | .refused x => some x
  | _ => none

/-- The registers a list names in the next state, if there is one. -/
def showing (rs : List Reg) (o : Host.Outcome State Fault Refusal) : Option (List Word) :=
  (landing o).map fun t => rs.map t.content

/-- One instruction from a state with some registers written, and what it leaves in others. -/
def run (i : Instr) (l : List (Reg × Word)) (rs : List Reg) : Option (List Word) := showing rs (exec i (loaded l))

/-- The 64-bit value of a decimal integer, negative ones in two's complement (30_encoding R92). -/
def int (x : Int) : Word := BitVec.ofInt 64 x

/-! ### WellFormed: one ill-formed word for each check (30_encoding R89; 95_test_vectors 2.12) -/

theorem test_wellFormed_refuses_zero_field :
    [0x0000000000000210, 0x0000000100000010, 0x8000000000000000].map (fun w : Word => (zeroFieldsOk w, legalWord w, decode w)) =
      [(false, false, .error .zeroFields), (false, false, .error .zeroFields), (false, false, .error .zeroFields)] := by decide

theorem test_wellFormed_refuses_opcode :
    [0x03, 0x11, 0x25, 0x34, 0xFF].map (fun w : Word => (zeroFieldsOk w, opcodeOk w, legalWord w, decode w)) =
      List.replicate 5 (true, false, false, .error .opcode) := by decide

theorem test_wellFormed_refuses_format_bit :
    [0x100, 0x120, 0x133].map (fun w : Word => (zeroFieldsOk w, opcodeOk w, formatBitOk w, legalWord w, decode w)) =
      List.replicate 3 (true, true, false, false, .error .formatBit) := by decide

/-! ### Decode: each command's word by its fields, zero(63:9) FM(8) OP(7:0) (30_encoding R85, R87) -/

theorem test_decode_nop :
    decode 0b0000000000000000000000000000000000000000000000000000000_0_00000000 = .ok .nop := by decide
theorem test_decode_errclr :
    decode 0b0000000000000000000000000000000000000000000000000000000_0_00000001 = .ok .errclr := by decide
theorem test_decode_srst :
    decode 0b0000000000000000000000000000000000000000000000000000000_0_00000010 = .ok .srst := by decide
theorem test_decode_decompD :
    decode 0b0000000000000000000000000000000000000000000000000000000_0_00010000 = .ok .decompD := by decide
theorem test_decode_decompS :
    decode 0b0000000000000000000000000000000000000000000000000000000_1_00010000 = .ok .decompS := by decide
theorem test_decode_kest :
    decode 0b0000000000000000000000000000000000000000000000000000000_0_00100000 = .ok .kest := by decide
theorem test_decode_gld :
    decode 0b0000000000000000000000000000000000000000000000000000000_0_00100001 = .ok .gld := by decide
theorem test_decode_mulr :
    decode 0b0000000000000000000000000000000000000000000000000000000_0_00100010 = .ok .mulr := by decide
theorem test_decode_bsel :
    decode 0b0000000000000000000000000000000000000000000000000000000_0_00100011 = .ok .bsel := by decide
theorem test_decode_shortest :
    decode 0b0000000000000000000000000000000000000000000000000000000_0_00100100 = .ok .shortest := by decide
theorem test_decode_dnorm :
    decode 0b0000000000000000000000000000000000000000000000000000000_0_00110000 = .ok .dnorm := by decide
theorem test_decode_digits :
    decode 0b0000000000000000000000000000000000000000000000000000000_0_00110001 = .ok .digits := by decide
theorem test_decode_pcalc :
    decode 0b0000000000000000000000000000000000000000000000000000000_0_00110010 = .ok .pcalc := by decide
theorem test_decode_rndp :
    decode 0b0000000000000000000000000000000000000000000000000000000_0_00110011 = .ok .rndp := by decide

/-- The host's view of the opcode table: the first step after reset runs the row's instruction. -/
theorem test_fetchWord_runs :
    decodeTableWord 64 0x110 = some .decompS ∧ decodeTableWord 64 0x99 = none ∧
    showing [.flags] (step (State.reset.withFetchWord 64 0x110)) = some [0x0010] := by decide

/-! ### The host port (95_test_vectors 2.12; 20_memory R61 to R63) -/

/-- (2, 3): STATUS = 0x101, EINFO = 3. -/
theorem test_illegal_word_faults :
    showing [.status, .einfo] (step (facing State.reset (.write 2 3))) = some [0x101, 3] := by decide

/-- (0, ones): CTRL = 1; (4, ones): FLAGS = 0xFFFF; (1, ones) and (31, ones): nothing. -/
theorem test_host_writes :
    showing [.ctrl] (step (facing State.reset (.write 0 0xFFFFFFFFFFFFFFFF))) = some [1] ∧
    showing [.flags] (step (facing State.reset (.write 4 0xFFFFFFFFFFFFFFFF))) = some [0xFFFF] ∧
    landing (step (facing State.reset (.write 1 0xFFFFFFFFFFFFFFFF))) = some State.reset ∧
    landing (step (facing State.reset (.write 31 0xFFFFFFFFFFFFFFFF))) = some State.reset := by decide

/-- A read returns the register; CMD and the unassigned indices read as 0. -/
theorem test_host_reads :
    landing (step (facing faulted (.read 1))) = some { faulted with observed := [.value 0x401] } ∧
    landing (step (facing faulted (.read 2))) = some { faulted with observed := [.value 0] } ∧
    landing (step (facing faulted (.read 31))) = some { faulted with observed := [.value 0] } := by decide

/-- On a byte-addressed bus register 16 (E) is at offset 128, its low byte first (R63). -/
theorem test_bus_write :
    showing [.e] (step (facing State.reset (.busWrite 128 [0xEF, 0xCD, 0xAB, 0x89, 0x67, 0x45, 0x23, 0x01]))) =
      some [0x0123456789ABCDEF] := by decide

/-- A read returns the bytes in that order too. -/
theorem test_bus_read :
    (landing (step (facing (loaded [(.e, 0x0123456789ABCDEF)]) (.busRead 128 8)))).map (·.observed) =
      some [.lanes [0xEF, 0xCD, 0xAB, 0x89, 0x67, 0x45, 0x23, 0x01]] := by decide

/-- The last register of the space, and accesses that are not one whole aligned register. -/
theorem test_bus_edges :
    landing (step (facing State.reset (.busRead 248 8))) = some { State.reset with observed := [.lanes [0, 0, 0, 0, 0, 0, 0, 0]] } ∧
    turnedAway (step (facing State.reset (.busWrite 8 [1, 2, 3, 4]))) = some .notATransaction ∧
    turnedAway (step (facing State.reset (.busWrite 12 (laneBytes 7)))) = some .notATransaction ∧
    turnedAway (step (facing State.reset (.busWrite 256 (laneBytes 7)))) = some .notATransaction ∧
    turnedAway (step (facing State.reset (.busRead 8 4))) = some .notATransaction ∧
    turnedAway (step (facing State.reset (.busRead 12 8))) = some .notATransaction ∧
    turnedAway (step (facing State.reset (.busRead 256 8))) = some .notATransaction := by decide

/-- The reset takes everything to 0, with a fault standing too. -/
theorem test_reset : landing (step (facing faulted .reset)) = some State.reset := by decide

/-- The opening of SPLIT.D, as transactions (45_host_sequences R181; 30_encoding R92). -/
theorem test_splitD_transactions :
    splitD 0x3FF8000000000000 = [.write 5 0x3FF8000000000000, .write 2 0x10, .write 2 0x24, .read 1, .read 15, .read 16,
      .read 17] := by decide

/-! ### One step of each command -/

/-- NOP: while a fault stands and while none does. -/
theorem test_nop : landing (exec .nop faulted) = some faulted ∧ landing (exec .nop State.reset) = some State.reset := by decide

/-- ERRCLR's example: K still 400. -/
theorem test_errclr :
    showing [.status, .einfo, .k] (exec .errclr { faulted with k := 400 }) = some [0, 0, 400] := by decide

/-- SRST's example, and with a fault standing. -/
theorem test_srst :
    landing (exec .srst (loaded [(.f, 15), (.e, int (-1)), (.n, 2), (.ctrl, 1)])) = some State.reset ∧
    landing (exec .srst faulted) = some State.reset := by decide

/-- 95_test_vectors 2.1: the boundaries of the classes and of the fast path. -/
theorem test_decompD :
    [0x8000000000000000, 0x0000000000000002, 0x0000000000000003, 0x0010000000000000, 0x3FF8000000000000, 0x4320000000000000,
      0x7FF0000000000001].map (fun b => run .decompD [(.bits, b)] [.flags, .c, .q]) =
    [some [0x0001, 0, 0], some [0x0042, 20, int (-1074)], some [0x0002, 3, int (-1074)],
      some [0x0004, 4503599627370496, int (-1074)], some [0x0004, 6755399441055744, int (-52)],
      some [0x0024, 4503599627370496, int (-1)], some [0x0008, 1, 0]] := by decide +kernel

/-- 95_test_vectors 2.1: DECOMP clears the result bits. -/
theorem test_decompD_clears :
    run .decompD [(.flags, 0xFF80), (.bits, 0x3FF8000000000000)] [.flags] = some [0x0004] := by decide +kernel

/-- 95_test_vectors 2.2. -/
theorem test_decompS :
    [0x00000007, 0x00000008, 0x42C80000, 0xDEADBEEF3FC00000, 0xFF800000].map
      (fun b => run .decompS [(.bits, b)] [.flags, .c, .q]) =
    [some [0x0052, 70, int (-149)], some [0x0012, 8, int (-149)], some [0x0034, 13107200, int (-17)],
      some [0x0014, 12582912, int (-23)], some [0x0017, 0, 0]] := by decide +kernel

/-- 95_test_vectors 2.3: 0.3; irregular spacing; both ends of the table. -/
theorem test_kest :
    run .kest [(.flags, 0x0004), (.c, 5404319552844595), (.q, int (-54))] [.k, .h, .flags] = some [int (-17), 4, 0x0004] ∧
    run .kest [(.flags, 0x0004), (.c, 4503599627370496), (.q, int (-52))] [.k, .h, .flags] = some [int (-16), 3, 0x0084] ∧
    run .kest [(.flags, 0x0042), (.c, 10), (.q, int (-1074))] [.k, .h, .flags] = some [int (-324), 4, 0x0042] ∧
    run .kest [(.flags, 0x0014), (.c, 16777215), (.q, 104)] [.k, .h, .flags] = some [31, 3, 0x0014] := by decide +kernel

/-- 95_test_vectors 2.3: the class is checked before the operands. -/
theorem test_kest_faults :
    run .kest [(.flags, 0x000A), (.c, 4503599627370496), (.q, int (-52))] [.status, .einfo, .k] = some [0x201, 0x20, 0] ∧
    run .kest [(.flags, 0x0042), (.c, 15), (.q, int (-1074))] [.status, .einfo, .k] = some [0x301, 0x20, 0] := by decide +kernel

/-- 95_test_vectors 2.4: the ends of the table. -/
theorem test_gld :
    [int (-324), int (-17), 292].map (fun k => run .gld [(.k, k)] [.g1, .g0]) =
    [some [0x4F0CEDC95A718DD4, 0x5B01E8B09AA0D1B5], some [0x58D15E1762800000, 1],
      some [0x7FBBD8FE5F5E6E27, 0x497A3A2704EEC3DF]] := by decide +kernel

/-- 41_boundary R127's example, by the table function of 00_scope R14. -/
theorem test_table_function :
    (tableG1 (-17), tableG0 (-17), tableG1 0, tableG0 0) = (0x58D15E1762800000, 1, 0x4000000000000000, 1) := by decide +kernel

/-- 95_test_vectors 2.4: beyond them. -/
theorem test_gld_faults :
    [int (-325), 293, 0x8000000000000000].map (fun k => run .gld [(.k, k)] [.status, .einfo, .g1]) =
    List.replicate 3 (some [0x401, 0x21, 0]) := by decide +kernel

/-- 95_test_vectors 2.5: irregular and regular, and the largest shift. -/
theorem test_mulr :
    run .mulr [(.flags, 0x80), (.c, 4503599627370496), (.h, 5), (.g1, 0x58D15E1762800000), (.g0, 1)] [.vb, .vbl, .vbr] =
      some [200000000000000000, 199999999999999989, 200000000000000023] ∧
    run .mulr [(.c, 10), (.h, 4), (.g1, 0x4F0CEDC95A718DD4), (.g0, 0x5B01E8B09AA0D1B5)] [.vb, .vbl, .vbr] =
      some [197, 187, 207] ∧
    run .mulr [(.c, 1), (.h, 60), (.g1, 0x7FFFFFFFFFFFFFFF), (.g0, 0x7FFFFFFFFFFFFFFF)] [.vb, .vbl, .vbr] =
      some [2305843009213693951, 1152921504606846975, 3458764513820540927] := by decide +kernel

/-- 95_test_vectors 2.5: one operand outside the range of rop at a time. -/
theorem test_mulr_faults :
    [[(Reg.c, (1 : Word)), (.h, 61)], [(.c, 0), (.h, 4)], [(.c, 5404319552844595), (.h, int (-1))],
      [(.c, 5404319552844595), (.h, 64)], [(.c, 1), (.g1, 0x8000000000000000)], [(.c, 1), (.g0, 0x8000000000000000)]].map
      (fun l => run .mulr l [.status, .einfo, .vb]) = List.replicate 6 (some [0x301, 0x22, 0]) := by decide +kernel

/-- 95_test_vectors 2.6: coarse upper, coarse lower, tie to even, tie to odd, the guard s < 100, and the zero record. FLAGS is
UPIN 0x100, WPIN 0x200, UIN 0x400, WIN 0x800, SEL 0x3000, TIE 0x4000. -/
theorem test_bsel :
    [[(Reg.c, (1 : Word)), (.vb, 119999999999999995), (.vbl, 119999999999999985), (.vbr, 120000000000000007), (.k, int (-17))],
      [(.c, 0), (.vb, 402), (.vbl, 400), (.vbr, 404)],
      [(.c, 1), (.vb, 45035996273704990), (.vbl, 45035996273704985), (.vbr, 45035996273704995), (.k, int (-1))],
      [(.c, 1), (.vb, 402), (.vbl, 400), (.vbr, 404)],
      [(.c, 0), (.vb, 399), (.vbl, 397), (.vbr, 401)],
      [(.c, 0), (.vb, 1), (.vbl, 0), (.vbr, 3), (.k, 7)]].map (fun l => run .bsel l [.flags, .f, .e, .n]) =
    [some [0x3200, 30000000000000000, int (-17), 17], some [0x2100, 100, 0, 3],
      some [0x5C00, 11258999068426248, int (-1), 17], some [0x4000, 100, 0, 3], some [0x1800, 100, 0, 3],
      some [0x0400, 0, 0, 0]] := by decide +kernel

/-- 95_test_vectors 2.6: the least binary64 subnormal takes the pre-scaling out. -/
theorem test_bsel_prescaled :
    run .bsel [(.flags, 0x0042), (.c, 10), (.vb, 197), (.vbl, 187), (.vbr, 207), (.k, int (-324))] [.flags, .f, .e, .n] =
      some [0x0C42, 49, int (-325), 2] := by decide +kernel

/-- 95_test_vectors 2.7: the general path with its intermediate registers (0.3 and the least subnormal). -/
theorem test_shortest_general :
    run .shortest [(.flags, 0x0004), (.c, 5404319552844595), (.q, int (-54))] [.k, .h, .g1, .g0, .vb, .f, .e, .n, .flags] =
      some [int (-17), 4, 0x58D15E1762800000, 1, 119999999999999995, 3, int (-1), 1, 0x3204] ∧
    run .shortest [(.flags, 0x0042), (.c, 10), (.q, int (-1074))] [.vb, .vbl, .vbr, .f, .e, .n, .flags] =
      some [197, 187, 207, 49, int (-325), 2, 0x0C42] := by decide +kernel

/-- 95_test_vectors 2.7: the other paths: 100.0 by the fast path, class Zero, a reserved class, a false fast-path integer. -/
theorem test_shortest_others :
    run .shortest [(.flags, 0x0024), (.c, 7036874417766400), (.q, int (-46))] [.f, .e, .n, .k, .flags] =
      some [1, 2, 1, 0, 0x0024] ∧
    run .shortest [(.c, 12345), (.q, int (-52)), (.f, 7)] [.f, .e, .n, .status] = some [0, 0, 0, 0] ∧
    run .shortest [(.flags, 0x000E), (.f, 77)] [.f, .status, .einfo] = some [77, 0x201, 0x24] ∧
    run .shortest [(.flags, 0x0024), (.c, 4503599627370496), (.q, int (-53))] [.f, .status, .einfo] =
      some [0, 0x301, 0x24] := by decide +kernel

/-- 95_test_vectors 2.8: stripping, the zero record, and the wrap of E. -/
theorem test_dnorm :
    run .dnorm [(.f, 30000000000000000), (.e, int (-17)), (.n, 17)] [.f, .e, .n] = some [3, int (-1), 1] ∧
    run .dnorm [(.f, 0), (.e, 5), (.n, 3)] [.f, .e, .n] = some [0, 0, 0] ∧
    run .dnorm [(.f, 10), (.e, 9223372036854775807), (.n, 2)] [.f, .e, .n] = some [1, 0x8000000000000000, 1] := by decide +kernel

/-- 95_test_vectors 2.9. -/
theorem test_digits :
    run .digits [(.f, 18446744073709551615), (.dighi, 0xFFFFFFFFFFFFFFFF)] [.diglo, .dighi, .n] =
      some [0x6744073709551615, 0x1844, 20] ∧
    run .digits [(.f, 295335)] [.diglo, .dighi, .n] = some [0x295335, 0, 6] := by decide +kernel

/-- 95_test_vectors 2.10: a sum and its wrap. -/
theorem test_pcalc :
    run .pcalc [(.f, 49), (.e, int (-325)), (.n, 2), (.prec, 2)] [.p] = some [int (-321)] ∧
    run .pcalc [(.f, 15), (.e, int (-1)), (.n, 2), (.prec, 9223372036854775807)] [.p] = some [0x8000000000000000] := by
  decide +kernel

/-- 95_test_vectors 2.10: an invalid record. -/
theorem test_pcalc_faults :
    run .pcalc [(.f, 0), (.e, 1), (.p, 99)] [.p, .status, .einfo] = some [99, 0x501, 0x32] := by decide +kernel

/-- 95_test_vectors 2.11: the carry in both modes, p = 0, half up, a 20-digit F. -/
theorem test_rndp :
    run .rndp [(.f, 999), (.e, int (-2)), (.n, 3), (.p, 2)] [.f, .e, .n, .flags] = some [100, int (-1), 3, 0x8000] ∧
    run .rndp [(.ctrl, 1), (.f, 999), (.e, int (-2)), (.n, 3), (.p, 2)] [.f, .e, .n, .flags] = some [10, 0, 2, 0x8000] ∧
    run .rndp [(.ctrl, 1), (.f, 5), (.e, int (-1)), (.n, 1), (.p, 0)] [.f, .e, .n, .flags] = some [1, 0, 1, 0x8000] ∧
    run .rndp [(.flags, 0x8000), (.f, 25), (.e, int (-1)), (.n, 2), (.p, 1)] [.f, .e, .n, .flags] = some [3, 0, 1, 0] ∧
    run .rndp [(.f, 18446744073709551615), (.n, 20), (.p, 19)] [.f, .e, .n, .flags] =
      some [1844674407370955162, 1, 19, 0] := by decide +kernel

/-- 95_test_vectors 2.11: an invalid record. -/
theorem test_rndp_faults :
    run .rndp [(.flags, 0x8000), (.f, 15), (.e, int (-1)), (.n, 3), (.p, 1)] [.f, .n, .flags, .status, .einfo] =
      some [15, 3, 0x8000, 0x501, 0x33] := by decide +kernel

/-! ### Witnesses: the hypotheses of each obligation are met, clause by clause -/

theorem test_witness_IllegalWordsFault :
    ∀ x ∈ [(0x200 : Word), 0x8000000000000000, 0x03, 0xFF, 0x120].map
        (fun w => (w, State.reset.withCommand w, faulted.withCommand w)),
      x.2.1.pending = .write 2 x.1 :: [] ∧ x.2.2.pending = .write 2 x.1 :: [] ∧
      (x.1.toNat / 2 ^ 9 ≠ 0 ∨
        x.1.toNat % 256 ∉ [0x00, 0x01, 0x02, 0x10, 0x20, 0x21, 0x22, 0x23, 0x24, 0x30, 0x31, 0x32, 0x33] ∨
        (x.1.toNat / 256 % 2 = 1 ∧ x.1.toNat % 256 ≠ 0x10)) ∧
      statusErr x.2.1.status = false ∧ statusErr x.2.2.status = true := by decide +kernel

theorem test_witness_StepRunsDecodedCommand :
    (faulted.withCommand 0x110).pending = .write 2 0x110 :: [] ∧ decode 0x110 = .ok .decompS := by decide

theorem test_witness_HostReadReturnsRegister :
    (facing faulted (.read 1)).pending = .read 1 :: [] ∧ (facing faulted (.read 31)).pending = .read 31 :: [] := by decide

theorem test_witness_HostWriteStoresOneRegister :
    ∀ i ∈ [(0 : Fin 32), 1, 3, 4, 5, 21, 22, 31], (facing faulted (.write i 7)).pending = .write i 7 :: [] ∧ i ≠ 2 := by decide

theorem test_witness_UnassignedIndicesDoNothing :
    (∀ i ∈ [(22 : Fin 32), 31], 22 ≤ i ∧ (facing faulted (.read i)).pending = .read i :: []) ∧
    (∀ i ∈ [(1 : Fin 32), 3, 22, 31], (22 ≤ i ∨ i = 1 ∨ i = 3) ∧
      (facing faulted (.write i 7)).pending = .write i 7 :: []) := by decide

theorem test_witness_AccessesAreIdempotent : (0 : Fin 32) ≠ 2 ∧ (1 : Fin 32) ≠ 2 ∧ (31 : Fin 32) ≠ 2 := by decide

theorem test_witness_BusAccessIsRegisterTransaction :
    (∀ i ∈ [(0 : Fin 32), 16, 31],
      (facing faulted (.busRead (8 * i.val) 8)).pending = .busRead (8 * i.val) 8 :: []) ∧
    ([0xEF, 0xCD, 0xAB, 0x89, 0x67, 0x45, 0x23, 0x01] : List Byte).length = 8 ∧
    (∀ j, j < 8 → ([0xEF, 0xCD, 0xAB, 0x89, 0x67, 0x45, 0x23, 0x01] : List Byte)[j]? =
      some ((0x0123456789ABCDEF : Word).extractLsb' (8 * j) 8)) ∧
    (∀ x ∈ [((8 : Nat), (7 : Nat)), (8, 9), (7, 8), (9, 8), (256, 8)],
      (facing State.reset (.busRead x.1 x.2)).pending = .busRead x.1 x.2 :: [] ∧
      (facing State.reset (.busWrite x.1 (List.replicate x.2 1))).pending = .busWrite x.1 (List.replicate x.2 1) :: [] ∧
      (x.2 ≠ 8 ∨ x.1 % 8 ≠ 0 ∨ 256 ≤ x.1) ∧
      ((List.replicate x.2 (1 : Byte)).length ≠ 8 ∨ x.1 % 8 ≠ 0 ∨ 256 ≤ x.1)) := by decide

theorem test_witness_EveryTransactionCompletes :
    faulted.pending = [] ∧ (facing faulted (.read 0)).pending = .read 0 :: [] ∧
    (facing faulted (.write 2 0x99)).pending = .write 2 0x99 :: [] ∧ (facing faulted .reset).pending = .reset :: [] := by decide

theorem test_witness_ResetZeroesEveryRegister : (facing faulted .reset).pending = .reset :: [] := by decide

theorem test_witness_ErrclrClearsFault : Inv (loaded [(.flags, 4)]) ∧ statusErr (loaded [(.flags, 4)]).status = false := by
  decide

theorem test_witness_FaultGatesCommands :
    statusErr faulted.status = true ∧ Instr.rndp ≠ .errclr ∧ Instr.rndp ≠ .srst := by decide

/-- The fault kept by another transaction, and left by each of the three that leave it. -/
theorem test_witness_FaultIsKeptUntilCleared :
    statusErr faulted.status = true ∧
    showing [.status, .einfo] (step (facing faulted (.write 2 0x99))) = some [0x401, 0x21] ∧
    (∀ a ∈ [HostAction.write 2 0x01, .write 2 0x02, .reset, .busWrite 16 [1, 0, 0, 0, 0, 0, 0, 0]],
      showing [.status, .einfo] (step (facing faulted a)) = some [0, 0]) := by decide

/-- The four cases of DECOMP.D at their boundaries. -/
theorem test_witness_DecompDSplitsBinary64 :
    [0x7FF0000000000000, 0x7FF0000000000001, 0x0010000000000000, 0x7FEFFFFFFFFFFFFF, 0x0000000000000001,
      0x000FFFFFFFFFFFFF, 0x8000000000000000].map (fun b : Word =>
        (statusErr (loaded [(.bits, b)]).status, b.toNat / 2 ^ 52 % 2 ^ 11, b.toNat % 2 ^ 52)) =
    [(false, 2047, 0), (false, 2047, 1), (false, 1, 0), (false, 2046, 2 ^ 52 - 1), (false, 0, 1), (false, 0, 2 ^ 52 - 1),
      (false, 0, 0)] := by decide +kernel

/-- The four cases of DECOMP.S at their boundaries. -/
theorem test_witness_DecompSSplitsBinary32 :
    [0x7F800000, 0x7F800001, 0x00800000, 0x7F7FFFFF, 0x00000001, 0x007FFFFF, 0xFFFFFFFF80000000].map (fun b : Word =>
      (statusErr (loaded [(.bits, b)]).status, b.toNat / 2 ^ 23 % 2 ^ 8, b.toNat % 2 ^ 23)) =
    [(false, 255, 0), (false, 255, 1), (false, 1, 0), (false, 254, 2 ^ 23 - 1), (false, 0, 1), (false, 0, 2 ^ 23 - 1),
      (false, 0, 0)] := by decide +kernel

/-- A DECOMP that leaves class 1 (pre-scaled), 2 and another, in both formats. -/
theorem test_witness_DecompIsExact :
    statusErr (loaded [(.bits, 1)]).status = false ∧
    [run .decompD [(.bits, 1)] [.flags], run .decompD [(.bits, 0x3FF8000000000000)] [.flags], run .decompD [] [.flags],
      run .decompS [(.bits, 1)] [.flags], run .decompS [(.bits, 0x3FC00000)] [.flags],
      run .decompS [(.bits, 0xFF800000)] [.flags]] =
      [some [0x42], some [0x04], some [0x00], some [0x52], some [0x14], some [0x17]] ∧
    [0x42, 0x04, 0x00, 0x52, 0x14, 0x17].map flagClass = [1, 2, 0, 1, 2, 3] := by decide +kernel

theorem test_witness_FixedPointLogarithmsAgree :
    (∀ q ∈ [(-1100 : ℤ), 999], -1100 ≤ q ∧ q ≤ 999) ∧ (∀ e ∈ [(-300 : ℤ), 329], -300 ≤ e ∧ e ≤ 329) := by decide

theorem test_witness_TableHoldsScaledPowers : ∀ k ∈ [(-324 : ℤ), 0, 292], -324 ≤ k ∧ k ≤ 292 := by decide

/-- Operands KEST takes: regular and irregular, both classes and formats, the three cases of OperandOK, both ends of Q. -/
def kestOperands : List State :=
  [loaded [(.flags, 0x0004), (.c, 5404319552844595), (.q, int (-54))],
   loaded [(.flags, 0x0004), (.c, 4503599627370496), (.q, 971)],
   loaded [(.flags, 0x0004), (.c, 4503599627370496), (.q, int (-1074))],
   loaded [(.flags, 0x0002), (.c, 3), (.q, int (-1074))],
   loaded [(.flags, 0x0042), (.c, 20), (.q, int (-1074))],
   loaded [(.flags, 0x0014), (.c, 16777215), (.q, 104)],
   loaded [(.flags, 0x0052), (.c, 70), (.q, int (-149))]]

theorem test_witness_KestEstimatesExponent :
    ∀ s ∈ kestOperands, statusErr s.status = false ∧ (flagClass s.flags = 1 ∨ flagClass s.flags = 2) ∧ operandsOK s := by
  decide +kernel

/-- Both formats, and a KEST that completes on each. -/
theorem test_witness_KestRangesAreSafe :
    kestOperands.map (fun s => (flagFmt s.flags, showing [.status, .k] (exec .kest s))) =
      [(false, some [0, int (-17)]), (false, some [0, 292]), (false, some [0, int (-324)]), (false, some [0, int (-324)]),
       (false, some [0, int (-324)]), (true, some [0, 31]), (true, some [0, int (-45)])] := by decide +kernel

theorem test_witness_KestFaults :
    (∀ s ∈ [loaded [], loaded [(.flags, 0x0006)], loaded [(.flags, 0x000E)]],
      statusErr s.status = false ∧ flagClass s.flags ≠ 1 ∧ flagClass s.flags ≠ 2) ∧
    (∀ s ∈ [loaded [(.flags, 0x0002), (.c, 2), (.q, int (-1074))], loaded [(.flags, 0x0004), (.c, 4503599627370496), (.q, 972)]],
      statusErr s.status = false ∧ (flagClass s.flags = 1 ∨ flagClass s.flags = 2) ∧ ¬operandsOK s) := by decide +kernel

theorem test_witness_GldLoadsTableEntry :
    (∀ s ∈ [loaded [(.k, int (-324))], loaded [(.k, 292)]],
      statusErr s.status = false ∧ -324 ≤ s.k.toInt ∧ s.k.toInt ≤ 292) ∧
    (∀ s ∈ [loaded [(.k, int (-325))], loaded [(.k, 293)]],
      statusErr s.status = false ∧ (s.k.toInt < -324 ∨ 292 < s.k.toInt)) := by decide +kernel

/-- A T that is a multiple of 2^63 (the shift is exact) and one that is not (a sticky bit), at the ends of the range. -/
theorem test_witness_RopRoundsToOdd :
    (∀ x ∈ [((2 ^ 62 : Nat), (0 : Nat), (4 : Nat)), (2 ^ 63 - 1, 2 ^ 63 - 1, 2 ^ 63 - 1)],
      x.1 < 2 ^ 63 ∧ x.2.1 < 2 ^ 63 ∧ x.2.2 < 2 ^ 63) ∧
    (2 ^ 62 * 4 / 2 + 0 * 4 / 2 ^ 64) % 2 ^ 63 = 0 ∧
    ((2 ^ 63 - 1) * (2 ^ 63 - 1) / 2 + (2 ^ 63 - 1) * (2 ^ 63 - 1) / 2 ^ 64) % 2 ^ 63 ≠ 0 := by decide +kernel

theorem test_witness_RopIsBoundedAndMonotone :
    ∃ a1 a0 x y : Nat, a1 < 2 ^ 63 ∧ a0 < 2 ^ 63 ∧ y < 2 ^ 63 ∧ x ≤ y :=
  ⟨2 ^ 63 - 1, 2 ^ 63 - 1, 0, 2 ^ 63 - 1, by decide +kernel⟩

/-- Both cases of IRR, and the largest shift the range admits. -/
def mulrOperands : List State :=
  [loaded [(.c, 1), (.h, 60), (.g1, 0x7FFFFFFFFFFFFFFF), (.g0, 0x7FFFFFFFFFFFFFFF)],
   loaded [(.flags, 0x80), (.c, 4503599627370496), (.h, 5), (.g1, 0x58D15E1762800000), (.g0, 1)],
   loaded [(.c, 1)]]

theorem test_witness_MulrMultipliesBoundaries :
    ∀ s ∈ mulrOperands, statusErr s.status = false ∧ s.c ≠ 0 ∧ 0 ≤ s.h.toInt ∧ s.h.toInt ≤ 63 ∧
      (4 * s.c.toNat + 2) * 2 ^ s.h.toNat < 2 ^ 63 ∧ s.g1.toNat < 2 ^ 63 ∧ s.g0.toNat < 2 ^ 63 := by decide +kernel

/-- Each way of being outside, alone. -/
theorem test_witness_MulrFaultsOutsideRange :
    (∀ s ∈ mulrOperands, ¬mulrOutOfRange s) ∧
    (loaded []).c = 0 ∧ (loaded [(.c, 1), (.h, int (-1))]).h.toInt < 0 ∧ 63 < (loaded [(.c, 1), (.h, 64)]).h.toInt ∧
    2 ^ 63 ≤ (4 * (loaded [(.c, 1), (.h, 61)]).c.toNat + 2) * 2 ^ (loaded [(.c, 1), (.h, 61)]).h.toNat ∧
    2 ^ 63 ≤ (loaded [(.c, 1), (.g1, 0x8000000000000000)]).g1.toNat ∧
    2 ^ 63 ≤ (loaded [(.c, 1), (.g0, 0x8000000000000000)]).g0.toNat ∧
    statusErr (loaded [(.c, 1), (.h, 64)]).status = false := by decide +kernel

/-- The clauses of BSEL: decided by the coarse test either way; only s, only t, both or neither in; a zero candidate. `test_bsel`
gives the flags they leave. -/
theorem test_witness_BselPicksCandidate :
    [[(Reg.c, (1 : Word)), (.vb, 119999999999999995), (.vbl, 119999999999999985), (.vbr, 120000000000000007)],
      [(.vb, 402), (.vbl, 400), (.vbr, 404)], [(.vb, 1), (.vbl, 0), (.vbr, 3)], [(.vb, 399), (.vbl, 397), (.vbr, 401)],
      [(.vb, 398), (.vbl, 390), (.vbr, 410)], [(.c, 1)]].map (fun l => (statusErr (loaded l).status, run .bsel l [.flags, .f])) =
    [(false, some [0x3200, 30000000000000000]), (false, some [0x2100, 100]), (false, some [0x0400, 0]),
      (false, some [0x1800, 100]), (false, some [0x5C00, 100]), (false, some [0, 0])] := by decide +kernel

theorem test_witness_ShortestOnZero :
    statusErr (loaded [(.flags, 0x0061), (.c, 12345)]).status = false ∧ flagClass (loaded [(.flags, 0x0061), (.c, 12345)]).flags = 0 := by
  decide

theorem test_witness_ShortestFastPath :
    ∀ s ∈ [loaded [(.flags, 0x0024), (.c, 4503599627370496), (.q, int (-52))],
        loaded [(.flags, 0x0024), (.c, 9007199254740990), (.q, int (-1))],
        loaded [(.flags, 0x0034), (.c, 8388608), (.q, int (-23))]],
      let p : Nat := if s.flags.getLsbD 4 = true then 24 else 53
      statusErr s.status = false ∧ flagInt s.flags = true ∧ flagClass s.flags = 2 ∧ flagDkf s.flags = false ∧
      2 ^ (p - 1) ≤ s.c.toNat ∧ s.c.toNat ≤ 2 ^ p - 1 ∧ 0 < -s.q.toInt ∧ -s.q.toInt < p ∧
      s.c.toNat % 2 ^ (-s.q.toInt).toNat = 0 := by decide +kernel

theorem test_witness_ShortestGeneralPath :
    ∀ s ∈ kestOperands, statusErr s.status = false ∧ (flagClass s.flags = 1 ∨ flagClass s.flags = 2) ∧
      flagInt s.flags = false ∧ operandsOK s := by decide +kernel

theorem test_witness_ShortestFaults :
    (∀ s ∈ [loaded [(.flags, 0x0006)], loaded [(.flags, 0x000E)]], statusErr s.status = false ∧ 3 ≤ flagClass s.flags) ∧
    (∀ s ∈ [loaded [(.flags, 0x0024), (.c, 4503599627370496), (.q, int (-53))], loaded [(.flags, 0x0022), (.c, 10)],
        loaded [(.flags, 0x0034), (.c, 8388608), (.q, int (-24))]],
      let p : Nat := if s.flags.getLsbD 4 = true then 24 else 53
      statusErr s.status = false ∧ (flagClass s.flags = 1 ∨ flagClass s.flags = 2) ∧ flagInt s.flags = true ∧
      ¬(flagClass s.flags = 2 ∧ flagDkf s.flags = false ∧ 2 ^ (p - 1) ≤ s.c.toNat ∧ s.c.toNat ≤ 2 ^ p - 1 ∧
        0 < -s.q.toInt ∧ -s.q.toInt < p ∧ s.c.toNat % 2 ^ (-s.q.toInt).toNat = 0)) ∧
    (∀ s ∈ [loaded [(.flags, 0x0004), (.c, 12345), (.q, int (-52))], loaded [(.flags, 0x0002)]],
      statusErr s.status = false ∧ (flagClass s.flags = 1 ∨ flagClass s.flags = 2) ∧ flagInt s.flags = false ∧
        ¬operandsOK s) := by decide +kernel

/-- Operands on which the sequence completes, and operands on which it faults. -/
theorem test_witness_StepwiseEqualsShortest :
    (∀ s ∈ loaded [(.flags, 0x0004), (.c, 12345), (.q, int (-52))] :: kestOperands, statusErr s.status = false ∧
      (flagClass s.flags = 1 ∨ flagClass s.flags = 2) ∧ flagInt s.flags = false) ∧
    showing [.status, .einfo] (execAll [.kest, .gld, .mulr, .bsel, .dnorm] (loaded [(.flags, 0x0004), (.c, 12345),
      (.q, int (-52))])) = some [0x301, 0x20] := by decide +kernel

theorem test_witness_ShortestRecordIsCanonical :
    (∀ s ∈ State.reset :: kestOperands, statusErr s.status = false) ∧
    (State.reset :: kestOperands).map (fun s => showing [.status] (exec .shortest s)) = List.replicate 8 (some [0]) := by
  decide +kernel

theorem test_witness_DnormStripsZeros :
    (loaded [(.e, 5)]).f = 0 ∧ (loaded [(.f, 100)]).f ≠ 0 ∧ statusErr (loaded [(.f, 100)]).status = false := by decide

/-- F = 0, the largest F, and the two places where the last digit of a register lies. -/
theorem test_witness_DigitsExtractsBcd :
    (loaded []).f = 0 ∧ (loaded [(.f, 0xFFFFFFFFFFFFFFFF)]).f ≠ 0 ∧
    statusErr (loaded [(.f, 0xFFFFFFFFFFFFFFFF)]).status = false ∧ 15 < 16 ∧ 16 ≤ 19 ∧ 19 < 20 := by decide

/-- Valid records: zero, one digit, twenty digits. -/
def validRecords : List State :=
  [loaded [(.p, 5)], loaded [(.f, 5), (.e, int (-1)), (.n, 1)],
   loaded [(.f, 18446744073709551615), (.n, 20), (.p, 19)]]

/-- Invalid ones: E not 0 or N not 0 beside F = 0, and N wrong. -/
def invalidRecords : List State := [loaded [(.e, 1)], loaded [(.n, 1)], loaded [(.f, 15), (.n, 3)]]

theorem test_witness_PcalcAddsPrecision :
    (∀ s ∈ validRecords, statusErr s.status = false ∧ recordOK s) ∧
    (∀ s ∈ invalidRecords, statusErr s.status = false ∧ ¬recordOK s) := by decide +kernel

/-- The clauses of RNDP: zero; p < 0; p = n; p = n - 1 without a carry; f2 = 0; a carry with p >= 1 in both modes; with p = 0. -/
theorem test_witness_RndpRoundsHalfUp :
    (∀ s ∈ validRecords ++ [loaded [(.f, 15), (.n, 2), (.p, int (-1))], loaded [(.f, 15), (.n, 2), (.p, 2)],
        loaded [(.f, 15), (.n, 2), (.p, 1)], loaded [(.f, 4), (.n, 1)], loaded [(.f, 99), (.n, 2), (.p, 1)],
        loaded [(.ctrl, 1), (.f, 99), (.n, 2), (.p, 1)], loaded [(.ctrl, 1), (.f, 5), (.n, 1)]],
      statusErr s.status = false ∧ recordOK s) ∧
    (loaded [(.f, 15), (.n, 2), (.p, int (-1))]).p.toInt < 0 ∧
    ((loaded [(.f, 15), (.n, 2), (.p, 2)]).n.toNat : ℤ) ≤ (loaded [(.f, 15), (.n, 2), (.p, 2)]).p.toInt ∧
    (2 * 15 + 10 ^ 1) / (2 * 10 ^ 1) = 2 ∧ (2 * 4 + 10 ^ 1) / (2 * 10 ^ 1) = 0 ∧ (2 * 99 + 10 ^ 1) / (2 * 10 ^ 1) = 10 ^ 1 ∧
    (2 * 5 + 10 ^ 1) / (2 * 10 ^ 1) = 10 ^ 0 ∧ (loaded [(.ctrl, 1), (.f, 99), (.n, 2), (.p, 1)]).ctrl.getLsbD 0 = true := by
  decide +kernel

theorem test_witness_InvalidRecordFaultsRndp :
    (∀ s ∈ validRecords, statusErr s.status = false ∧ recordOK s) ∧
    (∀ s ∈ invalidRecords, statusErr s.status = false ∧ ¬recordOK s) := by decide +kernel

/-- A result with n = p + 1, one with n = p, and one left alone. -/
theorem test_witness_RndpKeepsRecordValid :
    (∀ s ∈ [loaded [(.f, 99), (.n, 2), (.p, 1)], loaded [(.f, 15), (.n, 2), (.p, 1)], loaded [(.f, 15), (.n, 2), (.p, 2)]],
      statusErr s.status = false ∧ recordOK s) ∧
    showing [.f, .n] (exec .rndp (loaded [(.f, 99), (.n, 2), (.p, 1)])) = some [10, 2] ∧
    showing [.f, .n] (exec .rndp (loaded [(.f, 15), (.n, 2), (.p, 1)])) = some [2, 1] ∧
    showing [.f, .n] (exec .rndp (loaded [(.f, 15), (.n, 2), (.p, 2)])) = some [15, 2] := by decide +kernel

/-- The two modes agree, and differ. -/
theorem test_witness_CarryModesDenoteSameValue :
    (∀ s ∈ [loaded [(.f, 99), (.n, 2), (.p, 1)], loaded [(.f, 15), (.n, 2), (.p, 1)]],
      statusErr s.status = false ∧ recordOK s) ∧
    showing [.f, .e, .n] (exec .rndp { loaded [(.f, 99), (.n, 2), (.p, 1)] with ctrl := 0 }) = some [10, 1, 2] ∧
    showing [.f, .e, .n] (exec .rndp { loaded [(.f, 99), (.n, 2), (.p, 1)] with ctrl := 1 }) = some [1, 2, 1] := by
  decide +kernel

theorem test_witness_CommandsLeaveValidRecord :
    ∀ i ∈ [Instr.bsel, .shortest, .dnorm, .rndp, .digits],
      statusErr State.reset.status = false ∧ showing [.status] (exec i State.reset) = some [0] ∧
      (i = .digits → ¬(State.reset.f = 0 ∧ State.reset.e ≠ 0)) := by decide +kernel

/-- A command that faults and one that completes. -/
theorem test_witness_CommandsWriteOnlyTheirRegisters :
    showing [.status] (exec .gld (loaded [(.k, 293)])) = some [0x401] ∧
    showing [.status] (exec .gld (loaded [(.k, 292)])) = some [0] := by decide +kernel

/-- Two states that differ, alike in all that DECOMP.S reads. -/
theorem test_witness_CommandsReadOnlyTheirRegisters :
    let s := loaded [(.bits, 0xDEADBEEF3FC00000), (.c, 9)]
    let s' := loaded [(.bits, 0x000000003FC00000), (.k, 7)]
    statusErr s.status = statusErr s'.status ∧
    (∀ r : Reg, s.content r &&& readMask .decompS r = s'.content r &&& readMask .decompS r) ∧
    showing [.c] (exec .decompS s) = some [12582912] ∧ showing [.c] (exec .decompS s') = some [12582912] := by
  refine ⟨by decide +kernel, fun r => ?_, by decide +kernel, by decide +kernel⟩
  cases r <;> decide +kernel

/-- Each fault of R211 that a command raises. -/
theorem test_witness_FaultCausesAreTabled :
    [(Instr.kest, loaded []), (.kest, loaded [(.flags, 4)]), (.gld, loaded [(.k, 293)]), (.mulr, loaded []),
      (.shortest, loaded [(.flags, 6)]), (.shortest, loaded [(.flags, 4)]), (.pcalc, loaded [(.n, 1)]),
      (.rndp, loaded [(.n, 1)])].map (fun x => (statusErr x.2.status, showing [.status] (exec x.1 x.2))) =
    [(false, some [0x201]), (false, some [0x301]), (false, some [0x401]), (false, some [0x301]), (false, some [0x201]),
      (false, some [0x301]), (false, some [0x501]), (false, some [0x501])] := by decide +kernel

theorem test_witness_StepKeepsInvariant :
    Inv (facing (loaded [(.k, 293)]) (.write 2 0x21)) ∧ Inv faulted ∧
    showing [.status, .einfo] (step (facing (loaded [(.k, 293)]) (.write 2 0x21))) = some [0x401, 0x21] := by decide +kernel

end Sys2Proof.Machine
end

section
/-! The integer primitives (00_scope R10 to R16): the logarithms are exact floors, the record check counts digits, `rop` rounds
to odd, and the constant table holds the scaled powers of ten. -/

namespace Sys2Proof.Machine

/-! ### Register values of signed integers -/

/-- The signed reading undoes `u64` on the integers a register can hold (R10). -/
theorem s64_u64 (x : ℤ) (h1 : -2 ^ 63 ≤ x) (h2 : x < 2 ^ 63) : s64 (u64 x) = x := by
  rw [s64, u64, BitVec.toInt_ofInt]
  exact Int.bmod_eq_of_le (by omega) (by omega)

/-! ### The logarithms -/

/-- An integer power as the quotient of two natural powers, the shape in which the logarithms of R13 take it. -/
theorem zpow_eq_pow_toNat_div (b : ℚ) (q : ℤ) : b ^ q = b ^ q.toNat / b ^ (-q).toNat := by
  obtain ⟨n, rfl | rfl⟩ := Int.eq_nat_or_neg q
  · simp
  · simp

/-- `flog10pow2 q` is the greatest integer k with 10^k <= 2^q (R13). -/
theorem le_flog10pow2_iff (q k : ℤ) : k ≤ flog10pow2 q ↔ (10 : ℚ) ^ k ≤ 2 ^ q := by
  rw [flog10pow2, le_floorLog_iff (by decide) (by positivity) (by positivity), zpow_eq_pow_toNat_div 2 q,
    le_div_iff₀ (by positivity)]
  push_cast
  exact Iff.rfl

/-- `flog10tq q` is the greatest integer k with 4 * 10^k <= 3 * 2^q (R13). -/
theorem le_flog10tq_iff (q k : ℤ) : k ≤ flog10tq q ↔ 4 * (10 : ℚ) ^ k ≤ 3 * 2 ^ q := by
  rw [flog10tq, le_floorLog_iff (by decide) (by positivity) (by positivity), zpow_eq_pow_toNat_div 2 q, ← mul_div_assoc,
    le_div_iff₀ (by positivity)]
  push_cast
  rw [mul_left_comm, mul_assoc]

/-- `flog2pow10 e` is the greatest integer r with 2^r <= 10^e (R13). -/
theorem le_flog2pow10_iff (e r : ℤ) : r ≤ flog2pow10 e ↔ (2 : ℚ) ^ r ≤ 10 ^ e := by
  rw [flog2pow10, le_floorLog_iff (by decide) (by positivity) (by positivity), zpow_eq_pow_toNat_div 10 e,
    le_div_iff₀ (by positivity)]
  push_cast
  exact Iff.rfl

/-- The two powers of ten around 2^q. -/
theorem flog10pow2_bounds (q : ℤ) : (10 : ℚ) ^ flog10pow2 q ≤ 2 ^ q ∧ (2 : ℚ) ^ q < 10 ^ (flog10pow2 q + 1) :=
  ⟨(le_flog10pow2_iff q _).mp le_rfl,
    not_le.mp fun h => by have := (le_flog10pow2_iff q _).mpr h; omega⟩

/-- The two powers of ten around (3/4) * 2^q. -/
theorem flog10tq_bounds (q : ℤ) :
    4 * (10 : ℚ) ^ flog10tq q ≤ 3 * 2 ^ q ∧ 3 * (2 : ℚ) ^ q < 4 * 10 ^ (flog10tq q + 1) :=
  ⟨(le_flog10tq_iff q _).mp le_rfl,
    not_le.mp fun h => by have := (le_flog10tq_iff q _).mpr h; omega⟩

/-- The two powers of two around 10^e. -/
theorem flog2pow10_bounds (e : ℤ) : (2 : ℚ) ^ flog2pow10 e ≤ 10 ^ e ∧ (10 : ℚ) ^ e < 2 ^ (flog2pow10 e + 1) :=
  ⟨(le_flog2pow10_iff e _).mp le_rfl,
    not_le.mp fun h => by have := (le_flog2pow10_iff e _).mpr h; omega⟩

/-- Settles O22: each logarithm is `floorLog` of the numerator and denominator of its power. -/
theorem logarithmsAreExactFloors : Obligations.LogarithmsAreExactFloors :=
  fun q k => ⟨le_flog10pow2_iff q k, le_flog10tq_iff q k, le_flog2pow10_iff q k⟩

/-! ### The digit count of a record -/

/-- The digit count of a positive x is the n with 10^(n-1) <= x < 10^n (R12). -/
theorem eq_len10_iff (x n : ℕ) (h0 : x ≠ 0) : n = len10 x ↔ 1 ≤ n ∧ 10 ^ (n - 1) ≤ x ∧ x < 10 ^ n := by
  have hpos : ¬len10 x ≤ 0 := by rw [len10_le_iff]; omega
  have hlower : 10 ^ (n - 1) ≤ x ↔ ¬len10 x ≤ n - 1 := by rw [len10_le_iff, not_lt]
  rw [hlower, ← len10_le_iff]
  omega

/-- Settles O24: a non-zero F is valid with its digit count in N, and a power of ten below F makes F non-zero. -/
theorem recordValidityCountsDigits : Obligations.RecordValidityCountsDigits := by
  intro f e n
  refine or_congr Iff.rfl ?_
  by_cases hf : f = 0
  · have hpow := Nat.pow_pos (n := n.toNat - 1) (show 0 < 10 by decide)
    simp [hf]
  · have hf0 : f.toNat ≠ 0 := fun h => hf (BitVec.eq_of_toNat_eq h)
    rw [eq_len10_iff _ _ hf0, and_iff_right hf]

/-! ### The product that rounds to odd -/

/-- The sum of R15 that `rop` shifts by 63: floor(a1 cp / 2) + floor(a0 cp / 2^64). -/
def ropSum (a1 a0 cp : ℕ) : ℕ := a1 * cp / 2 + a0 * cp / 2 ^ 64

/-- R15's pseudocode cuts the sum at bit 63 and sets bit 0 when it cuts off anything but zeros. -/
theorem rop_eq_or (a1 a0 cp : ℕ) :
    rop a1 a0 cp = ropSum a1 a0 cp / 2 ^ 63 ||| (if ropSum a1 a0 cp % 2 ^ 63 = 0 then 0 else 1) := by
  have hdiv : a1 * cp / 2 ^ 64 + (a1 * cp % 2 ^ 64 / 2 + a0 * cp / 2 ^ 64) / 2 ^ 63 = ropSum a1 a0 cp / 2 ^ 63 := by
    unfold ropSum; omega
  have hmod : (a1 * cp % 2 ^ 64 / 2 + a0 * cp / 2 ^ 64) % 2 ^ 63 = ropSum a1 a0 cp % 2 ^ 63 := by
    unfold ropSum; omega
  simp only [rop, hdiv, hmod, ite_not]

/-- Setting bit 0 of a number gives the odd one of its pair. -/
theorem or_one_eq (n : ℕ) : n ||| 1 = 2 * (n / 2) + 1 := by
  have hdiv : (n ||| 1) / 2 = n / 2 := by rw [Nat.or_div_two]; exact Nat.or_zero _
  have hmod : (n ||| 1) % 2 = 1 := Nat.or_mod_two_eq_one.mpr (.inr rfl)
  omega

/-- `rop` without its bit operation: the quotient, or the odd number at it when the cut is not exact. -/
theorem rop_eq (a1 a0 cp : ℕ) :
    rop a1 a0 cp = if ropSum a1 a0 cp % 2 ^ 63 = 0 then ropSum a1 a0 cp / 2 ^ 63
      else 2 * (ropSum a1 a0 cp / 2 ^ 64) + 1 := by
  rw [rop_eq_or]
  split
  · exact Nat.or_zero _
  · rw [or_one_eq]
    omega

/-- The sum of R15 grows with the third argument. -/
theorem ropSum_mono (a1 a0 : ℕ) {x y : ℕ} (h : x ≤ y) : ropSum a1 a0 x ≤ ropSum a1 a0 y :=
  Nat.add_le_add (Nat.div_le_div_right (Nat.mul_le_mul_left _ h)) (Nat.div_le_div_right (Nat.mul_le_mul_left _ h))

/-- The sum of R15 on 63-bit arguments fits 126 bits. -/
theorem ropSum_lt {a1 a0 cp : ℕ} (h1 : a1 < 2 ^ 63) (h0 : a0 < 2 ^ 63) (hc : cp < 2 ^ 63) :
    ropSum a1 a0 cp < 2 ^ 126 := by
  have p1 : a1 * cp < 2 ^ 63 * 2 ^ 63 := Nat.mul_lt_mul'' h1 hc
  have p0 : a0 * cp < 2 ^ 63 * 2 ^ 63 := Nat.mul_lt_mul'' h0 hc
  unfold ropSum
  omega

/-- `rop` is monotone in its third argument. -/
theorem rop_mono (a1 a0 : ℕ) {x y : ℕ} (h : x ≤ y) : rop a1 a0 x ≤ rop a1 a0 y := by
  have := ropSum_mono a1 a0 h
  rw [rop_eq, rop_eq]
  split <;> split <;> omega

/-- `rop` of 63-bit arguments fits 63 bits. -/
theorem rop_lt {a1 a0 cp : ℕ} (h1 : a1 < 2 ^ 63) (h0 : a0 < 2 ^ 63) (hc : cp < 2 ^ 63) : rop a1 a0 cp < 2 ^ 63 := by
  have := ropSum_lt h1 h0 hc
  rw [rop_eq]
  split <;> omega

/-- The register value of `rop` on 63-bit arguments. -/
theorem toNat_word_rop {a1 a0 cp : ℕ} (h1 : a1 < 2 ^ 63) (h0 : a0 < 2 ^ 63) (hc : cp < 2 ^ 63) :
    (word (rop a1 a0 cp)).toNat = rop a1 a0 cp :=
  toNat_word _ ((rop_lt h1 h0 hc).trans (by decide))

/-- Settles O31: R15's sum is monotone and fits 126 bits, and cutting it at bit 63 with a sticky bit keeps both. -/
theorem ropIsBoundedAndMonotone : Obligations.RopIsBoundedAndMonotone :=
  fun a1 a0 _ _ h1 h0 hy hxy => ⟨rop_mono a1 a0 hxy, rop_lt h1 h0 hy⟩

/-- Settles O54: by the closed form of `rop`, exact or inexact cut. -/
theorem ropRoundsToOdd : Obligations.RopRoundsToOdd := by
  intro a1 a0 cp _ _ _
  change rop a1 a0 cp / 2 = ropSum a1 a0 cp / 2 ^ 64 ∧
    (ropSum a1 a0 cp % 2 ^ 63 = 0 → rop a1 a0 cp = ropSum a1 a0 cp / 2 ^ 63) ∧
    (ropSum a1 a0 cp % 2 ^ 63 ≠ 0 → rop a1 a0 cp % 2 = 1)
  rw [rop_eq]
  split <;> omega

/-! ### The constant table -/

/-- The numerator of 10^(-k) * 2^(-r). -/
def scaledNum (k r : ℤ) : ℕ := 10 ^ (-k).toNat * 2 ^ (-r).toNat

/-- The denominator of 10^(-k) * 2^(-r). -/
def scaledDen (k r : ℤ) : ℕ := 10 ^ k.toNat * 2 ^ r.toNat

theorem scaledDen_pos (k r : ℤ) : 0 < scaledDen k r := by unfold scaledDen; positivity

/-- The scaled power of ten of R14 as a quotient of natural numbers. -/
theorem scaledPower_eq_div (k r : ℤ) : (10 : ℚ) ^ (-k) * 2 ^ (-r) = (scaledNum k r : ℚ) / (scaledDen k r : ℚ) := by
  rw [zpow_eq_pow_toNat_div 10, zpow_eq_pow_toNat_div 2, neg_neg, neg_neg, div_mul_div_comm]
  simp [scaledNum, scaledDen]

/-- The floor of the scaled power of ten. -/
theorem floor_scaledPower (k r : ℤ) : ⌊(10 : ℚ) ^ (-k) * 2 ^ (-r)⌋ = ((scaledNum k r / scaledDen k r : ℕ) : ℤ) := by
  rw [scaledPower_eq_div, Rat.floor_natCast_div_natCast, Int.natCast_ediv]

/-- Comparing 10^(-k) with a power of two is comparing the parts of its scaled value. -/
theorem two_zpow_le_ten_zpow_iff (k r : ℤ) (j : ℕ) :
    (2 : ℚ) ^ (r + j) ≤ 10 ^ (-k) ↔ 2 ^ j * scaledDen k r ≤ scaledNum k r := by
  have hden : (0 : ℚ) < scaledDen k r := by exact_mod_cast scaledDen_pos k r
  have hscale : (2 : ℚ) ^ (r + j) * 2 ^ (-r) = 2 ^ j := by
    rw [← zpow_add₀ two_ne_zero, show r + j + -r = j by ring, zpow_natCast]
  rw [← mul_le_mul_iff_left₀ (show (0 : ℚ) < 2 ^ (-r) by positivity), hscale, scaledPower_eq_div, le_div_iff₀ hden]
  exact_mod_cast Iff.rfl

/-- The shift r of R14, by R13's fixed-point form of the logarithm; `entryExact` checks for each entry that it is the right one. -/
def tableShift (k : ℤ) : ℤ := -k * 913124641741 / 2 ^ 38 - 125

/-- R14 and R81 for one entry, on natural numbers: the scaled power has 126 bits, and a1 and a0 are the two 63-bit halves of its
floor plus one. -/
def entryExact (k r : ℤ) (a1 a0 : ℕ) : Bool :=
  decide (2 ^ 125 * scaledDen k r ≤ scaledNum k r) && decide (scaledNum k r < 2 ^ 126 * scaledDen k r) &&
    decide (a1 * 2 ^ 63 + a0 = scaledNum k r / scaledDen k r + 1) && decide (a1 < 2 ^ 63) && decide (a0 < 2 ^ 63)

/-- The 617 entries of R84 are exact, by evaluation. -/
theorem constantTable_entryExact :
    constantTable.zipIdx.all (fun x => entryExact (x.2 - 324) (tableShift (x.2 - 324)) x.1.1.toNat x.1.2.toNat) = true := by
  decide +kernel

/-- What the table gives for an index is exact. -/
theorem entryExact_of_romRead {i : ℕ} {a1 a0 : Word} (h : romRead i = some (a1, a0)) :
    entryExact (i - 324) (tableShift (i - 324)) a1.toNat a0.toNat = true :=
  List.all_eq_true.mp constantTable_entryExact ((a1, a0), i) (List.mk_mem_zipIdx_iff_getElem?.mpr h)

/-- Settles O25: the entries are exact on natural numbers by evaluation, and R14's bounds and floor are those of the same quotient. -/
theorem tableHoldsScaledPowers : Obligations.TableHoldsScaledPowers := by
  intro k hmin hmax
  obtain ⟨a1, a0, hread⟩ := romRead_isSome (k + 324).toNat (by omega)
  have hexact := entryExact_of_romRead hread
  rw [show ((k + 324).toNat : ℤ) - 324 = k by omega] at hexact
  generalize tableShift k = r at hexact
  simp only [entryExact, Bool.and_eq_true, decide_eq_true_eq] at hexact
  obtain ⟨⟨⟨⟨hlow, hhigh⟩, hsum⟩, h1⟩, h0⟩ := hexact
  have hquot : 2 ^ 125 ≤ scaledNum k r / scaledDen k r := (Nat.le_div_iff_mul_le (scaledDen_pos k r)).mpr hlow
  refine ⟨a1, a0, r, hread, (two_zpow_le_ten_zpow_iff k r 125).mpr hlow,
    not_le.mp fun h => absurd ((two_zpow_le_ten_zpow_iff k r 126).mp h) (not_le.mpr hhigh), ?_, by omega, h1, h0⟩
  rw [floor_scaledPower]
  exact_mod_cast hsum

end Sys2Proof.Machine
end

section
/-! The boundary unit (41_boundary R121 to R128): the admissible operands in numbers, KEST's estimate and its ranges, and the three
products of MULR. -/

namespace Sys2Proof.Machine

/-! ### The operands KEST admits -/

/-- A bit of a register is set exactly when that digit of its value is 1. -/
theorem getLsbD_eq_true_iff (v : Word) (i : ℕ) : v.getLsbD i = true ↔ v.toNat / 2 ^ i % 2 = 1 := by
  rw [← BitVec.testBit_toNat, Nat.testBit_eq_decide_div_mod_eq, decide_eq_true_eq]

/-- OperandOK for binary64 (R5, R123). -/
theorem operandOK_binary64_iff (c : ℕ) (q : ℤ) (dkf : Bool) :
    OperandOK c q dkf false ↔
      (-1074 ≤ q ∧ q ≤ 971 ∧ dkf = false ∧ 2 ^ 52 ≤ c ∧ c < 2 ^ 53) ∨ (q = -1074 ∧ dkf = false ∧ 3 ≤ c ∧ c < 2 ^ 52) ∨
        (q = -1074 ∧ dkf = true ∧ (c = 10 ∨ c = 20)) := by
  have hmin : qMin (formatOf false) = -1074 := rfl
  have hmax : qMax (formatOf false) = 971 := by decide
  have hcmin : cMin (formatOf false) = 2 ^ 52 := rfl
  have hcmax : cMax (formatOf false) = 2 ^ 53 - 1 := rfl
  have htiny : (formatOf false).tiny = 3 := rfl
  have hmult : (∃ t, t < 3 ∧ 1 ≤ t ∧ c = 10 * t) ↔ c = 10 ∨ c = 20 :=
    ⟨fun ⟨t, h3, h1, hc⟩ => by omega, fun h => ⟨c / 10, by omega, by omega, by omega⟩⟩
  simp only [OperandOK, hmin, hmax, hcmin, hcmax, htiny, hmult]
  cases dkf <;> simp <;> omega

/-- OperandOK for binary32 (R6, R123). -/
theorem operandOK_binary32_iff (c : ℕ) (q : ℤ) (dkf : Bool) :
    OperandOK c q dkf true ↔
      (-149 ≤ q ∧ q ≤ 104 ∧ dkf = false ∧ 2 ^ 23 ≤ c ∧ c < 2 ^ 24) ∨ (q = -149 ∧ dkf = false ∧ 8 ≤ c ∧ c < 2 ^ 23) ∨
        (q = -149 ∧ dkf = true ∧ 10 ∣ c ∧ 10 ≤ c ∧ c ≤ 70) := by
  have hmin : qMin (formatOf true) = -149 := rfl
  have hmax : qMax (formatOf true) = 104 := by decide
  have hcmin : cMin (formatOf true) = 2 ^ 23 := rfl
  have hcmax : cMax (formatOf true) = 2 ^ 24 - 1 := rfl
  have htiny : (formatOf true).tiny = 8 := rfl
  have hmult : (∃ t, t < 8 ∧ 1 ≤ t ∧ c = 10 * t) ↔ 10 ∣ c ∧ 10 ≤ c ∧ c ≤ 70 :=
    ⟨fun ⟨t, h8, h1, hc⟩ => by omega, fun h => ⟨c / 10, by omega, by omega, by omega⟩⟩
  simp only [OperandOK, hmin, hmax, hcmin, hcmax, htiny, hmult]
  cases dkf <;> simp <;> omega

/-- Admissible operands of either format lie in the ranges of binary64. -/
theorem range_of_operandOK {c : ℕ} {q : ℤ} {dkf fmt : Bool} (h : OperandOK c q dkf fmt) :
    c < 2 ^ 53 ∧ -1074 ≤ q ∧ q ≤ 971 := by
  cases fmt with
  | false => rw [operandOK_binary64_iff] at h; omega
  | true => rw [operandOK_binary32_iff] at h; omega

/-- Settles O55: FLAGS.FMT names the format, whose numbers are those above. -/
theorem admissibleOperandsInNumbers : Obligations.AdmissibleOperandsInNumbers := by
  intro s fmt dkf c q
  have hfmt : flagFmt s.flags = true ↔ fmt = 1 := getLsbD_eq_true_iff _ _
  have hdkf : flagDkf s.flags = true ↔ dkf = 1 := getLsbD_eq_true_iff _ _
  have hdkf' : flagDkf s.flags = false ↔ dkf = 0 := by rw [← Bool.not_eq_true, hdkf]; omega
  cases h : flagFmt s.flags with
  | false =>
    have hzero : fmt = 0 := by
      have : ¬fmt = 1 := by rw [← hfmt, h]; exact Bool.false_ne_true
      omega
    rw [operandsOK, h, operandOK_binary64_iff, hdkf, hdkf']
    exact ⟨fun hok => .inl ⟨hzero, hok⟩, fun hor => hor.elim And.right fun hok => absurd hok.1 (by omega)⟩
  | true =>
    have hone : fmt = 1 := hfmt.mp h
    rw [operandsOK, h, operandOK_binary32_iff, hdkf, hdkf']
    exact ⟨fun hok => .inr ⟨hone, hok⟩, fun hor => hor.elim (fun hok => absurd hok.1 (by omega)) And.right⟩

/-! ### KEST -/

/-- The irregular case of R121 in numbers (R5, R6). -/
theorem irregular_iff (fmt : Bool) (c : ℕ) (q : ℤ) :
    irregular (formatOf fmt) c q = true ↔ if fmt = true then c = 2 ^ 23 ∧ q ≠ -149 else c = 2 ^ 52 ∧ q ≠ -1074 := by
  have h64 : cMin (formatOf false) = 2 ^ 52 ∧ qMin (formatOf false) = -1074 := ⟨rfl, rfl⟩
  have h32 : cMin (formatOf true) = 2 ^ 23 ∧ qMin (formatOf true) = -149 := ⟨rfl, rfl⟩
  cases fmt
  · simp [irregular, h64]
  · simp [irregular, h32]

/-- The estimate in the regular case. -/
theorem estimateK_regular {F : Format} {c : ℕ} {q : ℤ} (h : irregular F c q = false) : estimateK F c q = flog10pow2 q := by
  simp [estimateK, h]

/-- The estimate in the irregular case. -/
theorem estimateK_irregular {F : Format} {c : ℕ} {q : ℤ} (h : irregular F c q = true) : estimateK F c q = flog10tq q := by
  simp [estimateK, h]

/-- What the regular and the irregular estimate have in common: 10^k <= 2^q and (3/4) * 2^q < 10^(k+1). -/
theorem estimateK_bounds (F : Format) (c : ℕ) (q : ℤ) :
    (10 : ℚ) ^ estimateK F c q ≤ 2 ^ q ∧ 3 * (2 : ℚ) ^ q < 4 * 10 ^ (estimateK F c q + 1) := by
  have hpos : (0 : ℚ) < 2 ^ q := by positivity
  cases h : irregular F c q with
  | false =>
    rw [estimateK_regular h]
    obtain ⟨hlow, hhigh⟩ := flog10pow2_bounds q
    exact ⟨hlow, by linarith⟩
  | true =>
    rw [estimateK_irregular h]
    obtain ⟨hlow, hhigh⟩ := flog10tq_bounds q
    exact ⟨by linarith, hhigh⟩

/-- Above every q the estimate is bounded by the regular one. -/
theorem estimateK_le_flog10pow2 (F : Format) (c : ℕ) {q b : ℤ} (hq : q ≤ b) : estimateK F c q ≤ flog10pow2 b :=
  (le_flog10pow2_iff _ _).mpr ((estimateK_bounds F c q).1.trans (zpow_le_zpow_right₀ (by norm_num) hq))

/-- Below every q the estimate is bounded by the irregular one. -/
theorem flog10tq_le_estimateK (F : Format) (c : ℕ) {a q : ℤ} (hq : a ≤ q) : flog10tq a ≤ estimateK F c q := by
  have hpow : (2 : ℚ) ^ a ≤ 2 ^ q := zpow_le_zpow_right₀ (by norm_num) hq
  have hchain : (10 : ℚ) ^ flog10tq a < 10 ^ (estimateK F c q + 1) := by
    have hlow := (flog10tq_bounds a).1
    have hhigh := (estimateK_bounds F c q).2
    linarith
  have := (zpow_lt_zpow_iff_right₀ (by norm_num)).mp hchain
  omega

/-- The shift of R124 is from 2 to 5: 2^(q+r) with 2^r <= 10^(-k) < 2^(r+1) lies above 1/2 and below 40/3. -/
theorem shiftH_estimateK_bounds (F : Format) (c : ℕ) (q : ℤ) :
    2 ≤ shiftH q (estimateK F c q) ∧ shiftH q (estimateK F c q) ≤ 5 := by
  obtain ⟨hk, hk'⟩ := estimateK_bounds F c q
  obtain ⟨hr, hr'⟩ := flog2pow10_bounds (-estimateK F c q)
  unfold shiftH
  generalize estimateK F c q = k at *
  generalize flog2pow10 (-k) = r at *
  have hten : (10 : ℚ) ^ k * 10 ^ (-k) = 1 := by rw [← zpow_add₀ (by norm_num), add_neg_cancel, zpow_zero]
  have hten' : (0 : ℚ) < 10 ^ (-k) := by positivity
  have htwo : (0 : ℚ) < 2 ^ q := by positivity
  constructor
  · have hlow : (2 : ℚ) ^ (0 : ℤ) < 2 ^ (q + (r + 1)) := by
      rw [zpow_add₀ two_ne_zero, zpow_zero]
      calc (1 : ℚ) = 10 ^ k * 10 ^ (-k) := hten.symm
        _ ≤ 2 ^ q * 10 ^ (-k) := mul_le_mul_of_nonneg_right hk hten'.le
        _ < 2 ^ q * 2 ^ (r + 1) := mul_lt_mul_of_pos_left hr' htwo
    have := (zpow_lt_zpow_iff_right₀ (by norm_num)).mp hlow
    omega
  · have hhigh : 3 * (2 : ℚ) ^ (q + r) < 40 := by
      rw [zpow_add₀ two_ne_zero, ← mul_assoc]
      calc 3 * (2 : ℚ) ^ q * 2 ^ r ≤ 3 * 2 ^ q * 10 ^ (-k) := mul_le_mul_of_nonneg_left hr (by positivity)
        _ < 4 * 10 ^ (k + 1) * 10 ^ (-k) := mul_lt_mul_of_pos_right hk' hten'
        _ = 40 * (10 ^ k * 10 ^ (-k)) := by rw [zpow_add_one₀ (by norm_num)]; ring
        _ = 40 := by rw [hten, mul_one]
    have hlt : (2 : ℚ) ^ (q + r) < 2 ^ (4 : ℤ) := by norm_num; linarith
    have := (zpow_lt_zpow_iff_right₀ (by norm_num)).mp hlt
    omega

/-- The estimate on admissible binary64 operands lies in the table (R125). -/
theorem estimateK_binary64_range {c : ℕ} {q : ℤ} {dkf : Bool} (h : OperandOK c q dkf false) :
    -324 ≤ estimateK (formatOf false) c q ∧ estimateK (formatOf false) c q ≤ 292 := by
  obtain ⟨-, hmin, hmax⟩ := range_of_operandOK h
  have hlow : flog10tq (-1074) = -324 := by decide +kernel
  have hhigh : flog10pow2 971 = 292 := by decide +kernel
  exact ⟨hlow ▸ flog10tq_le_estimateK _ c hmin, hhigh ▸ estimateK_le_flog10pow2 _ c hmax⟩

/-- The estimate on admissible binary32 operands (R125). -/
theorem estimateK_binary32_range {c : ℕ} {q : ℤ} {dkf : Bool} (h : OperandOK c q dkf true) :
    -45 ≤ estimateK (formatOf true) c q ∧ estimateK (formatOf true) c q ≤ 31 := by
  obtain ⟨hmin, hmax⟩ : -149 ≤ q ∧ q ≤ 104 := by rw [operandOK_binary32_iff] at h; omega
  have hlow : flog10tq (-149) = -45 := by decide +kernel
  have hhigh : flog10pow2 104 = 31 := by decide +kernel
  exact ⟨hlow ▸ flog10tq_le_estimateK _ c hmin, hhigh ▸ estimateK_le_flog10pow2 _ c hmax⟩

/-- The estimate on admissible operands of either format lies in the table (R125). -/
theorem estimateK_range {c : ℕ} {q : ℤ} {dkf fmt : Bool} (h : OperandOK c q dkf fmt) :
    -324 ≤ estimateK (formatOf fmt) c q ∧ estimateK (formatOf fmt) c q ≤ 292 := by
  cases fmt with
  | false => exact estimateK_binary64_range h
  | true =>
    have := estimateK_binary32_range h
    omega

/-- KEST on admissible operands completes with the estimate and the shift in K and H, read back as signed, and IRR. -/
theorem exec_kest_of_operandsOK {s : State} (he : statusErr s.status = false)
    (hc : flagClass s.flags = 1 ∨ flagClass s.flags = 2) (ho : operandsOK s) :
    ∃ k h : Word, let F := formatOf (flagFmt s.flags)
      exec .kest s = .next (s.setEstimate k h (irregular F s.c.toNat s.q.toInt)) ∧
      k.toInt = estimateK F s.c.toNat s.q.toInt ∧ h.toInt = shiftH s.q.toInt (estimateK F s.c.toNat s.q.toInt) := by
  have hbody := (kestBody_ok_iff s _).mpr ⟨hc, ho, rfl⟩
  have hk := estimateK_range ho
  have hh := shiftH_estimateK_bounds (formatOf (flagFmt s.flags)) s.c.toNat (s64 s.q)
  exact ⟨_, _, congrArg Host.Outcome.next (command_of_ok he hbody), s64_u64 _ (by omega) (by omega),
    s64_u64 _ (by omega) (by omega)⟩

/-- Settles O27: K and H are the exact logarithms of R124, and `putIrr` writes bit 7 only. -/
theorem kestEstimatesExponent : Obligations.KestEstimatesExponent := by
  intro s he hc ho
  obtain ⟨k, h, hexec, hk, hh⟩ := exec_kest_of_operandsOK he hc ho
  have hirr := irregular_iff (flagFmt s.flags) s.c.toNat s.q.toInt
  obtain ⟨hr, hr'⟩ := flog2pow10_bounds (-estimateK (formatOf (flagFmt s.flags)) s.c.toNat s.q.toInt)
  refine ⟨_, _, _, hexec, rfl, hk, hh, ?_, fun n hn => ?_, fun hreg => ?_, fun hreg => ?_, hr, hr'⟩
  · rw [← hirr]
    exact Eq.congr_left (getLsbD_putIrr _ _ 7)
  · exact (getLsbD_putIrr _ _ n).trans (if_neg hn)
  · rw [← hirr, Bool.not_eq_true] at hreg
    rw [estimateK_regular hreg]
    exact flog10pow2_bounds _
  · rw [← hirr] at hreg
    rw [estimateK_irregular hreg]
    exact flog10tq_bounds _

/-- Settles O29: the ranges are those of the estimate and the shift, and K in the table lets GLD complete. -/
theorem kestRangesAreSafe : Obligations.KestRangesAreSafe := by
  intro s t he hc ho hexec
  obtain ⟨k, h, hkest, hk, hh⟩ := exec_kest_of_operandsOK he hc ho
  obtain rfl : t = _ := Host.Outcome.next.inj (hexec.symm.trans hkest)
  have hrange := estimateK_range ho
  have hshift := shiftH_estimateK_bounds (formatOf (flagFmt s.flags)) s.c.toNat s.q.toInt
  rw [← hh] at hshift
  have hsmall : (4 * s.c.toNat + 2) * 2 ^ h.toNat < 2 ^ 61 := by
    have hle : h.toNat ≤ 5 := by rw [BitVec.toInt_eq_toNat_cond] at hshift; omega
    have hpow : 2 ^ h.toNat ≤ 2 ^ 5 := Nat.pow_le_pow_right (by decide) hle
    calc (4 * s.c.toNat + 2) * 2 ^ h.toNat ≤ (4 * s.c.toNat + 2) * 2 ^ 5 := Nat.mul_le_mul_left _ hpow
      _ < 2 ^ 61 := by have := (range_of_operandOK ho).1; omega
  refine ⟨fun hf => ?_, fun hf => ?_, hshift.1, hshift.2, hsmall, ?_⟩
  · rw [State.setEstimate_k, hk, hf]
    exact estimateK_binary64_range (by rw [← hf]; exact ho)
  · rw [State.setEstimate_k, hk, hf]
    exact estimateK_binary32_range (by rw [← hf]; exact ho)
  · obtain ⟨a1, a0, -, hgld⟩ := gldBody_ok (s.setEstimate k h (irregular (formatOf (flagFmt s.flags)) s.c.toNat s.q.toInt))
      (hrange.1.trans_eq hk.symm) (hk.le.trans hrange.2)
    exact ⟨_, congrArg Host.Outcome.next (command_of_ok he hgld), rfl⟩

/-! ### MULR -/

/-- Settles O32: the range of R128 keeps MULR from faulting, and its products are `rop` of increasing boundaries. -/
theorem mulrMultipliesBoundaries : Obligations.MulrMultipliesBoundaries := by
  refine ⟨rfl, fun s he hc hh hh' hbound hg1 hg0 => ?_⟩
  have hin : ¬mulrOutOfRange s := by
    rintro (h | h | h | h | h | h)
    exacts [hc h, h.not_ge hh, h.not_ge hh', h.not_gt hbound, h.not_gt hg1, h.not_gt hg0]
  have hbody := (mulrBody_cases s).resolve_left fun hout => hin hout.1
  have hfit : ∀ x, x ≤ 4 * s.c.toNat + 2 → x * 2 ^ s.h.toNat < 2 ^ 63 :=
    fun x hx => (Nat.mul_le_mul_right _ hx).trans_lt hbound
  have hleft : (if flagIrr s.flags = true then 4 * s.c.toNat - 1 else 4 * s.c.toNat - 2) ≤ 4 * s.c.toNat := by
    split <;> omega
  have hvb := toNat_word_rop hg1 hg0 (hfit (4 * s.c.toNat) (by omega))
  have hvbl := toNat_word_rop hg1 hg0 (hfit _ (hleft.trans (by omega)))
  have hvbr := toNat_word_rop hg1 hg0 (hfit (4 * s.c.toNat + 2) le_rfl)
  refine ⟨_, congrArg Host.Outcome.next (command_of_ok he hbody.2), rfl, ?_, ?_, ?_, ?_, ?_, ?_⟩
  · exact hvb.trans (rop_eq_or _ _ _)
  · exact hvbl.trans (rop_eq_or _ _ _)
  · exact hvbr.trans (rop_eq_or _ _ _)
  · exact hvbl.trans_le ((rop_mono _ _ (Nat.mul_le_mul_right _ hleft)).trans_eq hvb.symm)
  · exact hvb.trans_le ((rop_mono _ _ (Nat.mul_le_mul_right _ (by omega))).trans_eq hvbr.symm)
  · exact hvbr.trans_lt (rop_lt hg1 hg0 (hfit _ le_rfl))

end Sys2Proof.Machine
end

section
/-! The decomposer (40_decomposer R101 to R112): DECOMP keeps the exact magnitude of a finite pattern. -/

namespace Sys2Proof.Machine

/-! ### The flags DECOMP writes -/

/-- The low 16 bits of FLAGS after DECOMP: the fields of R108 from bit 0 up. -/
theorem getLsbD_decompFlags (flags : Word) (dkf int fmt : Bool) (cls : BitVec 3) (sign : Bool) {i : ℕ} (hi : i < 16) :
    (decompFlags flags dkf int fmt cls sign).getLsbD i =
      if i < 1 then sign else if i < 4 then cls.getLsbD (i - 1) else if i < 5 then fmt else if i < 6 then int
      else decide (i < 7) && dkf := by
  have hcls : i - 1 < 3 ↔ i < 4 := by omega
  have hfmt : i - 1 - 3 < 1 ↔ i < 5 := by omega
  have hint : i - 1 - 3 - 1 < 1 ↔ i < 6 := by omega
  have hdkf : i - 1 - 3 - 1 - 1 < 1 ↔ i < 7 := by omega
  rw [decompFlags, getLsbD_putField _ _ _ _ (by decide), if_pos (by omega), Nat.sub_zero]
  rw [BitVec.getLsbD_append, BitVec.getLsbD_append, BitVec.getLsbD_append, BitVec.getLsbD_append, BitVec.getLsbD_append]
  simp only [hcls, hfmt, hint, hdkf, BitVec.getLsbD_ofBool]
  grind

section
variable (flags : Word) (dkf int fmt : Bool) (cls : BitVec 3) (sign : Bool)

@[simp] theorem flagFmt_decompFlags : flagFmt (decompFlags flags dkf int fmt cls sign) = fmt :=
  getLsbD_decompFlags _ _ _ _ _ _ (i := 4) (by decide)

@[simp] theorem flagInt_decompFlags : flagInt (decompFlags flags dkf int fmt cls sign) = int :=
  getLsbD_decompFlags _ _ _ _ _ _ (i := 5) (by decide)

@[simp] theorem flagDkf_decompFlags : flagDkf (decompFlags flags dkf int fmt cls sign) = dkf :=
  getLsbD_decompFlags _ _ _ _ _ _ (i := 6) (by decide)

@[simp] theorem flagClass_decompFlags : flagClass (decompFlags flags dkf int fmt cls sign) = cls.toNat := by
  refine congrArg BitVec.toNat (BitVec.eq_of_getLsbD_eq fun i hi => ?_)
  rw [getLsbD_getField, getLsbD_decompFlags _ _ _ _ _ _ (by omega), if_neg (by omega), if_pos (by omega),
    Nat.add_sub_cancel_left, decide_eq_true hi, Bool.true_and]

end

/-! ### The fields of a pattern -/

/-- The magnitude of a finite value by its biased exponent and its fraction (R103, R105). -/
def fieldMagnitude (F : Format) (bq t : ℕ) : ℚ :=
  if bq = 0 then (t : ℚ) * 2 ^ qMin F
  else ((2 ^ (F.precision - 1) + t : ℕ) : ℚ) * 2 ^ ((bq : ℤ) - F.bias - (F.precision - 1))

theorem fieldMagnitude_zero (F : Format) (t : ℕ) : fieldMagnitude F 0 t = t * 2 ^ qMin F := if_pos rfl

theorem fieldMagnitude_of_ne_zero (F : Format) {bq : ℕ} (t : ℕ) (h : bq ≠ 0) :
    fieldMagnitude F bq t =
      ((2 ^ (F.precision - 1) + t : ℕ) : ℚ) * 2 ^ ((bq : ℤ) - F.bias - (F.precision - 1)) := if_neg h

/-- The value of a pattern is that of the fields the decomposer extracts. -/
theorem ieeeMagnitude_toNat (F : Format) (v : Word) :
    ieeeMagnitude F v.toNat = fieldMagnitude F (biasedExponentOf F v) (fractionOf F v) := by
  have ht : fractionOf F v = v.toNat % 2 ^ (F.precision - 1) := by simp [fractionOf, getField]
  have hb : biasedExponentOf F v = v.toNat / 2 ^ (F.precision - 1) % 2 ^ F.expWidth := by
    simp [biasedExponentOf, getField, Nat.shiftRight_eq_div_pow]
  rw [ht, hb]
  rfl

/-- The extracted biased exponent fits its field. -/
theorem biasedExponentOf_lt (F : Format) (v : Word) : biasedExponentOf F v < 2 ^ F.expWidth := BitVec.isLt _

/-- The extracted fraction fits its field. -/
theorem fractionOf_lt (F : Format) (v : Word) : fractionOf F v < 2 ^ (F.precision - 1) := BitVec.isLt _

/-! ### Classification, one equation for each class -/

section
variable {F : Format} {bq t : ℕ}

/-- Infinity and NaN (R102). -/
theorem decompose_special (h : bq = bqMax F) :
    decompose F bq t =
      { cls := if t ≠ 0 then classNaN else classInfinite, c := t, q := 0, int := false, dkf := false } := if_pos h

/-- A normal value (R103). -/
theorem decompose_normal (h : bq ≠ bqMax F) (h0 : bq ≠ 0) :
    decompose F bq t =
      { cls := classNormal, c := 2 ^ (F.precision - 1) + t, q := bq - F.bias - (F.precision - 1),
        int := isFastInteger F (2 ^ (F.precision - 1) + t) (bq - F.bias - (F.precision - 1)), dkf := false } := by
  simp [decompose, h, h0]

/-- A tiny subnormal value, scaled by ten (R106). -/
theorem decompose_tiny (h : 0 ≠ bqMax F) (h0 : t ≠ 0) (ht : t < F.tiny) :
    decompose F 0 t = { cls := classSubnormal, c := 10 * t, q := qMin F, int := false, dkf := true } := by
  simp [decompose, h, h0, ht]

/-- Any other subnormal value (R105). -/
theorem decompose_subnormal (h : 0 ≠ bqMax F) (h0 : t ≠ 0) (ht : ¬t < F.tiny) :
    decompose F 0 t = { cls := classSubnormal, c := t, q := qMin F, int := false, dkf := false } := by
  simp [decompose, h, h0, ht]

/-- Zero (R104). -/
theorem decompose_zero (h : 0 ≠ bqMax F) :
    decompose F 0 0 = { cls := classZero, c := 0, q := 0, int := false, dkf := false } := by
  simp [decompose, h]

end

/-- What R112 says of the decomposition of a finite non-zero value. -/
def ExactDecomposition (fmt : Bool) (bq t : ℕ) (d : Decomposition) : Prop :=
  OperandOK d.c d.q d.dkf fmt ∧
    fieldMagnitude (formatOf fmt) bq t = (d.c : ℚ) * 2 ^ d.q * 10 ^ (if d.dkf then -1 else 0 : ℤ) ∧
    (d.dkf = true → d.c % 2 = 0)

/-- Zero's biased exponent is not the one of infinity and NaN. -/
theorem zero_ne_bqMax (fmt : Bool) : 0 ≠ bqMax (formatOf fmt) := by cases fmt <;> decide

/-- A normal value decomposes exactly: its exponent runs from Q_MIN to Q_MAX and its significand from C_MIN to C_MAX. -/
theorem exactDecomposition_normal (fmt : Bool) {bq t : ℕ} (hb : bq < 2 ^ (formatOf fmt).expWidth)
    (ht : t < 2 ^ ((formatOf fmt).precision - 1)) (hs : bq ≠ bqMax (formatOf fmt)) (h0 : bq ≠ 0) :
    ExactDecomposition fmt bq t (decompose (formatOf fmt) bq t) := by
  have hbq : (bq : ℤ) + 1 < 2 ^ (formatOf fmt).expWidth := by
    exact_mod_cast (show bq + 1 < 2 ^ (formatOf fmt).expWidth by unfold bqMax at hs; omega)
  have hc : 2 ^ (formatOf fmt).precision = 2 * 2 ^ ((formatOf fmt).precision - 1) := by cases fmt <;> rfl
  rw [decompose_normal hs h0]
  refine ⟨⟨?_, .inl ⟨rfl, Nat.le_add_right _ _, ?_⟩⟩, ?_, fun h => absurd h Bool.false_ne_true⟩
  · simp only [qMin, qMax]
    omega
  · simp only [cMax]
    omega
  · rw [fieldMagnitude_of_ne_zero _ _ h0, if_neg Bool.false_ne_true, zpow_zero, mul_one]

/-- A subnormal value decomposes exactly; a tiny one by the factor ten of R106, which makes C even. -/
theorem exactDecomposition_subnormal (fmt : Bool) {t : ℕ} (ht : t < 2 ^ ((formatOf fmt).precision - 1)) (h0 : t ≠ 0) :
    ExactDecomposition fmt 0 t (decompose (formatOf fmt) 0 t) := by
  have hrange : qMin (formatOf fmt) ≤ qMax (formatOf fmt) := by cases fmt <;> decide
  by_cases htiny : t < (formatOf fmt).tiny
  · rw [decompose_tiny (zero_ne_bqMax fmt) h0 htiny]
    refine ⟨⟨⟨le_rfl, hrange⟩, .inr (.inr ⟨rfl, rfl, t, htiny, by omega, rfl⟩)⟩, ?_, fun _ => by simp only; omega⟩
    rw [fieldMagnitude_zero, if_pos rfl, zpow_neg_one]
    push_cast
    ring
  · rw [decompose_subnormal (zero_ne_bqMax fmt) h0 htiny]
    refine ⟨⟨⟨le_rfl, hrange⟩, .inr (.inl ⟨rfl, rfl, not_lt.mp htiny, ht⟩)⟩, ?_, fun h => absurd h Bool.false_ne_true⟩
    rw [fieldMagnitude_zero, if_neg Bool.false_ne_true, zpow_zero, mul_one]

/-- R112 by classes: classes 1 and 2 are exact, and the others leave Q, INT and DKF zero. -/
theorem decompose_exact (fmt : Bool) {bq t : ℕ} (hb : bq < 2 ^ (formatOf fmt).expWidth)
    (ht : t < 2 ^ ((formatOf fmt).precision - 1)) :
    let d := decompose (formatOf fmt) bq t
    (d.cls.toNat = 1 ∨ d.cls.toNat = 2) ∧ ExactDecomposition fmt bq t d ∨
      ¬(d.cls.toNat = 1 ∨ d.cls.toNat = 2) ∧ d.q = 0 ∧ d.int = false ∧ d.dkf = false := by
  by_cases hs : bq = bqMax (formatOf fmt)
  · rw [decompose_special hs]
    refine .inr ⟨?_, rfl, rfl, rfl⟩
    by_cases h : t = 0 <;> simp [h, classNaN, classInfinite]
  by_cases h0 : bq = 0
  · subst h0
    by_cases hz : t = 0
    · subst hz
      rw [decompose_zero (zero_ne_bqMax fmt)]
      exact .inr ⟨by decide, rfl, rfl, rfl⟩
    · refine .inl ⟨.inl ?_, exactDecomposition_subnormal fmt ht hz⟩
      by_cases htiny : t < (formatOf fmt).tiny
      · rw [decompose_tiny (zero_ne_bqMax fmt) hz htiny]; rfl
      · rw [decompose_subnormal (zero_ne_bqMax fmt) hz htiny]; rfl
  · refine .inl ⟨.inr ?_, exactDecomposition_normal fmt hb ht hs h0⟩
    rw [decompose_normal hs h0]; rfl

/-! ### DECOMP -/

/-- C reads back as it was written. -/
theorem toNat_word_of_operandOK {c : ℕ} {q : ℤ} {dkf fmt : Bool} (h : OperandOK c q dkf fmt) : (word c).toNat = c :=
  toNat_word c ((range_of_operandOK h).1.trans (by decide))

/-- Q reads back as it was written. -/
theorem s64_u64_of_operandOK {c : ℕ} {q : ℤ} {dkf fmt : Bool} (h : OperandOK c q dkf fmt) : s64 (u64 q) = q := by
  obtain ⟨-, hmin, hmax⟩ := range_of_operandOK h
  exact s64_u64 q (by omega) (by omega)

/-- DECOMP of either format with no fault standing. -/
theorem exec_decomp {s : State} (he : statusErr s.status = false) (fmt : Bool) :
    exec (if fmt then .decompS else .decompD) s = .next (decompWrites fmt s) := by
  cases fmt <;> exact congrArg Host.Outcome.next (command_of_ok he rfl)

/-- Settles O21: the fields of the pattern decompose exactly, and C, Q and FLAGS read back as written. -/
theorem decompIsExact : Obligations.DecompIsExact := by
  intro s he fmt
  refine ⟨_, exec_decomp he fmt, flagFmt_decompFlags _ _ _ _ _ _, ?_⟩
  rw [ieeeMagnitude_toNat]
  have hexact := decompose_exact fmt (biasedExponentOf_lt _ s.bits) (fractionOf_lt _ s.bits)
  simp only [decompWrites, operandsOK, decimalShift, State.setDecomposition_flags, State.setDecomposition_c, State.setDecomposition_q,
    flagFmt_decompFlags, flagInt_decompFlags, flagDkf_decompFlags, flagClass_decompFlags]
  generalize decompose (formatOf fmt) _ _ = d at hexact ⊢
  rcases hexact with ⟨hcls, hok, hmag, heven⟩ | ⟨hcls, hq, hint, hdkf⟩
  · have hc := toNat_word_of_operandOK hok
    have hq := s64_u64_of_operandOK hok
    refine ⟨fun _ => ?_, fun h => absurd hcls h⟩
    rw [hc, hq, show (u64 d.q).toInt = d.q from hq]
    exact ⟨hok, hmag, heven⟩
  · refine ⟨fun h => absurd h hcls, fun _ => ⟨?_, hint, hdkf⟩⟩
    rw [hq]
    rfl

end Sys2Proof.Machine
end

section
/-! The state file (10_state), part 1: every step keeps the reserved bits 0 and the fault record consistent (R22, R23, R25, R26,
R211). -/

namespace Sys2Proof.Machine

/-! ### Commands and writes, case by case -/

/-- The body of each command: its writes, or the cause of its fault (R86 step 5). -/
def commandBody : Instr → State → Except Cause State
  | .nop => .ok
  | .errclr => fun s => .ok s.clearFault
  | .srst => fun s => .ok s.resetRegisters
  | .decompD => fun s => .ok (decompWrites false s)
  | .decompS => fun s => .ok (decompWrites true s)
  | .kest => kestBody
  | .gld => gldBody
  | .mulr => mulrBody
  | .bsel => bselBody
  | .shortest => shortestBody
  | .dnorm => dnormBody
  | .digits => fun s => .ok (digitsWrites s)
  | .pcalc => pcalcBody
  | .rndp => rndpBody

/-- ERRCLR and SRST run whatever STATUS.ERR is (R86 step 3); every other command is its body under the gate. -/
theorem exec_cases (i : Instr) (s : State) :
    (i = .errclr ∧ exec i s = .next s.clearFault) ∨ (i = .srst ∧ exec i s = .next s.resetRegisters) ∨
    (i ≠ .errclr ∧ i ≠ .srst ∧ exec i s = .next (command i (commandBody i) s)) := by
  cases i
  case errclr => exact .inl ⟨rfl, rfl⟩
  case srst => exact .inr (.inl ⟨rfl, rfl⟩)
  all_goals exact .inr (.inr ⟨nofun, nofun, rfl⟩)

/-- Everything a host write can do. -/
theorem serve_write_cases (i : Fin 32) (v : Word) (s : State) :
    (i = 2 ∧ serve (.write i v) s = runCommand v s) ∨
    (i ≠ 2 ∧ ∃ r, regAt i = some r ∧ serve (.write i v) s = .next (s.store r v)) ∨
    (i ≠ 2 ∧ regAt i = none ∧ serve (.write i v) s = .next s) := by
  by_cases h : i = cmdIndex
  · exact .inl ⟨h, if_pos h⟩
  · cases hr : regAt i with
    | some r => exact .inr (.inl ⟨h, r, rfl, by simp [serve, serveWrite, h, hr]⟩)
    | none => exact .inr (.inr ⟨h, rfl, by simp [serve, serveWrite, h, hr]⟩)

/-- A SHORTEST that completes leaves the zero record, DNORM's record of a value that fits F, or what its general path leaves. -/
theorem shortestBody_ok_cases {s t : State} (h : shortestBody s = .ok t) :
    t = s.setRecord 0 0 0 ∨ (∃ f < 2 ^ 64, t = dnormRecord f 0 s) ∨ generalPath s = .ok t := by
  obtain ⟨-, hb⟩ | ⟨-, hb⟩ | ⟨-, -, -, hb⟩ | ⟨-, -, -, hb⟩ | ⟨-, -, -, hb⟩ | ⟨-, -, -, hb⟩ := shortestBody_cases s
  case inr.inl => exact .inl (Except.ok.inj (h.symm.trans hb))
  case inr.inr.inl =>
    exact .inr (.inl ⟨_, (Nat.div_le_self _ _).trans_lt s.c.isLt, Except.ok.inj (h.symm.trans hb)⟩)
  case inr.inr.inr.inr.inr => exact .inr (.inr (hb.symm.trans h))
  all_goals cases hb.symm.trans h

/-! ### What every body leaves alone -/

/-- Going from `s` to `t` keeps STATUS, EINFO and the reserved bits of CTRL and FLAGS. -/
structure ControlKept (s t : State) : Prop where
  ctrl : t.ctrl &&& 0xFFFFFFFFFFFFFFFE = s.ctrl &&& 0xFFFFFFFFFFFFFFFE
  status : t.status = s.status
  einfo : t.einfo = s.einfo
  flags : t.flags &&& 0xFFFFFFFFFFFF0000 = s.flags &&& 0xFFFFFFFFFFFF0000

theorem ControlKept.trans {s t u : State} (h : ControlKept s t) (h' : ControlKept t u) : ControlKept s u :=
  ⟨h'.ctrl.trans h.ctrl, h'.status.trans h.status, h'.einfo.trans h.einfo, h'.flags.trans h.flags⟩

/-- The invariant reads nothing else. -/
theorem ControlKept.inv {s t : State} (h : ControlKept s t) (hs : Inv s) : Inv t := by
  obtain ⟨⟨hctrl, hstatus, hflags⟩, hrecord⟩ := hs
  refine ⟨⟨h.ctrl.trans hctrl, by rw [h.status, hstatus], h.flags.trans hflags⟩, ?_⟩
  rw [faultRecorded, h.status, h.einfo]
  exact hrecord

/-- Writing a field leaves the bits a mask selects outside it. -/
theorem putField_and_of_disjoint (w : Word) (lo : ℕ) {n : ℕ} (x : BitVec n) (m : Word) (hn : lo + n ≤ 64)
    (h : ∀ i < 64, m.getLsbD i = true → ¬(lo ≤ i ∧ i < lo + n)) : putField w lo x &&& m = w &&& m := by
  refine BitVec.eq_of_getLsbD_eq fun i hi => ?_
  rw [BitVec.getLsbD_and, BitVec.getLsbD_and, getLsbD_putField _ _ _ _ hn]
  cases hm : m.getLsbD i with
  | false => simp
  | true => rw [if_neg (h i hi hm)]

section
variable (v : Word)

@[simp] theorem writeCtrl_reserved (w : Word) :
    writeCtrl v w &&& 0xFFFFFFFFFFFFFFFE = v &&& 0xFFFFFFFFFFFFFFFE :=
  putField_and_of_disjoint _ _ _ _ (by decide) (by decide)

@[simp] theorem writeFlags_reserved (w : Word) :
    writeFlags v w &&& 0xFFFFFFFFFFFF0000 = v &&& 0xFFFFFFFFFFFF0000 :=
  putField_and_of_disjoint _ _ _ _ (by decide) (by decide)

@[simp] theorem statusFaulted_reserved (x : Cause) :
    statusFaulted v x &&& 0xFFFFFFFFFFFFF0FE = v &&& 0xFFFFFFFFFFFFF0FE :=
  (putField_and_of_disjoint _ _ _ _ (by decide) (by decide)).trans
    (putField_and_of_disjoint _ _ _ _ (by decide) (by decide))

@[simp] theorem decompFlags_reserved (dkf int fmt : Bool) (cls : BitVec 3) (sign : Bool) :
    decompFlags v dkf int fmt cls sign &&& 0xFFFFFFFFFFFF0000 = v &&& 0xFFFFFFFFFFFF0000 :=
  putField_and_of_disjoint _ _ _ _ (by decide) (by decide)

@[simp] theorem putIrr_reserved (b : Bool) : putIrr v b &&& 0xFFFFFFFFFFFF0000 = v &&& 0xFFFFFFFFFFFF0000 :=
  putField_and_of_disjoint _ _ _ _ (by decide) (by decide)

@[simp] theorem putCarry_reserved (b : Bool) : putCarry v b &&& 0xFFFFFFFFFFFF0000 = v &&& 0xFFFFFFFFFFFF0000 :=
  putField_and_of_disjoint _ _ _ _ (by decide) (by decide)

@[simp] theorem putTests_reserved (upin wpin uin win : Bool) (sel : BitVec 2) (tie : Bool) :
    putTests v upin wpin uin win sel tie &&& 0xFFFFFFFFFFFF0000 = v &&& 0xFFFFFFFFFFFF0000 := by
  simp (disch := decide) only [putTests, putField_and_of_disjoint]

end

section
variable {s t : State}

theorem decompWrites_controlKept (fmt : Bool) (s : State) : ControlKept s (decompWrites fmt s) :=
  ⟨rfl, rfl, rfl, decompFlags_reserved _ _ _ _ _ _⟩

theorem kestBody_controlKept (h : kestBody s = .ok t) : ControlKept s t := by
  obtain ⟨-, -, rfl⟩ := (kestBody_ok_iff s t).mp h
  exact ⟨rfl, rfl, rfl, putIrr_reserved _ _⟩

theorem gldBody_controlKept (h : gldBody s = .ok t) : ControlKept s t := by
  obtain ⟨_, _, -, -, -, hb⟩ | ⟨-, hb⟩ := gldBody_cases s
  · obtain rfl := Except.ok.inj (hb.symm.trans h)
    exact ⟨rfl, rfl, rfl, rfl⟩
  · cases hb.symm.trans h

theorem mulrBody_controlKept (h : mulrBody s = .ok t) : ControlKept s t := by
  obtain ⟨-, hb⟩ | ⟨-, hb⟩ := mulrBody_cases s
  · cases hb.symm.trans h
  · obtain rfl := Except.ok.inj (hb.symm.trans h)
    exact ⟨rfl, rfl, rfl, rfl⟩

theorem bselBody_controlKept (h : bselBody s = .ok t) : ControlKept s t := by
  obtain ⟨_, _, _, _, -, hb, -⟩ := bselBody_eq s
  obtain rfl := Except.ok.inj (hb.symm.trans h)
  exact ⟨rfl, rfl, rfl, putTests_reserved _ _ _ _ _ _ _⟩

theorem dnormRecord_controlKept (f : ℕ) (e : ℤ) (s : State) : ControlKept s (dnormRecord f e s) := by
  obtain ⟨-, hr⟩ | ⟨-, hr⟩ := dnormRecord_cases f e s <;> rw [hr] <;> exact ⟨rfl, rfl, rfl, rfl⟩

theorem generalPath_controlKept (h : generalPath s = .ok t) : ControlKept s t := by
  obtain ⟨s1, s2, s3, s4, hkest, hgld, hmulr, hbsel, hdnorm⟩ := (generalPath_ok_iff s t).mp h
  obtain rfl := Except.ok.inj hdnorm
  exact (kestBody_controlKept hkest).trans <| (gldBody_controlKept hgld).trans <| (mulrBody_controlKept hmulr).trans <|
    (bselBody_controlKept hbsel).trans <| dnormRecord_controlKept _ _ _

theorem shortestBody_controlKept (h : shortestBody s = .ok t) : ControlKept s t := by
  obtain rfl | ⟨_, -, rfl⟩ | hgeneral := shortestBody_ok_cases h
  · exact ⟨rfl, rfl, rfl, rfl⟩
  · exact dnormRecord_controlKept _ _ _
  · exact generalPath_controlKept hgeneral

theorem pcalcBody_controlKept (h : pcalcBody s = .ok t) : ControlKept s t := by
  obtain ⟨-, hb⟩ | ⟨-, hb⟩ := pcalcBody_cases s
  · obtain rfl := Except.ok.inj (hb.symm.trans h)
    exact ⟨rfl, rfl, rfl, rfl⟩
  · cases hb.symm.trans h

theorem rndpBody_controlKept (h : rndpBody s = .ok t) : ControlKept s t := by
  obtain ⟨-, _, -, hb⟩ | ⟨-, hb⟩ := rndpBody_cases s
  · obtain rfl := Except.ok.inj (hb.symm.trans h)
    exact ⟨rfl, rfl, rfl, putCarry_reserved _ _⟩
  · cases hb.symm.trans h

/-- A body under the gate that completes touches neither the fault record nor a reserved bit. -/
theorem commandBody_controlKept {i : Instr} (hclr : i ≠ .errclr) (hrst : i ≠ .srst) (h : commandBody i s = .ok t) :
    ControlKept s t := by
  cases i with
  | errclr => exact absurd rfl hclr
  | srst => exact absurd rfl hrst
  | nop => obtain rfl := Except.ok.inj h; exact ⟨rfl, rfl, rfl, rfl⟩
  | decompD => obtain rfl := Except.ok.inj h; exact decompWrites_controlKept _ _
  | decompS => obtain rfl := Except.ok.inj h; exact decompWrites_controlKept _ _
  | kest => exact kestBody_controlKept h
  | gld => exact gldBody_controlKept h
  | mulr => exact mulrBody_controlKept h
  | bsel => exact bselBody_controlKept h
  | shortest => exact shortestBody_controlKept h
  | dnorm => obtain rfl := Except.ok.inj h; exact dnormRecord_controlKept _ _ _
  | digits => obtain rfl := Except.ok.inj h; exact ⟨rfl, rfl, rfl, rfl⟩
  | pcalc => exact pcalcBody_controlKept h
  | rndp => exact rndpBody_controlKept h

/-! ### The causes a body can raise -/

/-- The commands that fault, each with its causes (R211). -/
def raisedCauses : List (Instr × Cause) :=
  [(.kest, .badclass), (.kest, .oprange), (.gld, .krange), (.mulr, .oprange), (.shortest, .badclass), (.shortest, .oprange),
   (.pcalc, .badrec), (.rndp, .badrec)]

/-- KEST's estimate lies in the table (R125), so GLD on it completes. -/
theorem gldBody_of_kestBody (h : kestBody s = .ok t) : ∃ u, gldBody t = .ok u := by
  obtain ⟨-, hok, ht⟩ := (kestBody_ok_iff s t).mp h
  have hrange := estimateK_range hok
  have hk : s64 t.k = estimateK (formatOf (flagFmt s.flags)) s.c.toNat (s64 s.q) := by
    rw [ht]
    exact s64_u64 _ (by omega) (by omega)
  obtain ⟨_, _, -, hgld⟩ := gldBody_ok t (by omega) (by omega)
  exact ⟨_, hgld⟩

/-- The general path faults as KEST does or with MULR's OPRANGE. -/
theorem generalPath_error {x : Cause} (h : generalPath s = .error x) : kestBody s = .error x ∨ x = .oprange := by
  unfold generalPath at h
  cases hkest : kestBody s with
  | error y => rw [hkest] at h; exact .inl h
  | ok s1 =>
    obtain ⟨s2, hgld⟩ := gldBody_of_kestBody hkest
    rw [hkest] at h
    simp only [hgld] at h
    obtain ⟨-, hmulr⟩ | ⟨-, hmulr⟩ := mulrBody_cases s2
    · simp only [hmulr] at h
      exact .inr (Except.error.inj h).symm
    · simp [hmulr, bselBody, dnormBody] at h

/-- KEST's causes are BADCLASS and OPRANGE. -/
theorem kestBody_error {x : Cause} (h : kestBody s = .error x) : x = .badclass ∨ x = .oprange :=
  ((kestBody_error_iff s x).mp h).imp (·.2) (·.2.2)

/-- SHORTEST's causes are BADCLASS and OPRANGE. -/
theorem shortestBody_error {x : Cause} (h : shortestBody s = .error x) : x = .badclass ∨ x = .oprange := by
  obtain ⟨-, hb⟩ | ⟨-, hb⟩ | ⟨-, -, -, hb⟩ | ⟨-, -, -, hb⟩ | ⟨-, -, -, hb⟩ | ⟨-, -, -, hb⟩ := shortestBody_cases s <;>
    rw [hb] at h
  · exact .inl (Except.error.inj h).symm
  · cases h
  · cases h
  · exact .inr (Except.error.inj h).symm
  · exact .inr (Except.error.inj h).symm
  · exact (generalPath_error h).elim kestBody_error .inr

theorem gldBody_error {x : Cause} (h : gldBody s = .error x) : x = .krange := by
  obtain ⟨_, _, -, -, -, hb⟩ | ⟨-, hb⟩ := gldBody_cases s <;> cases hb.symm.trans h
  rfl

theorem mulrBody_error {x : Cause} (h : mulrBody s = .error x) : x = .oprange := by
  obtain ⟨-, hb⟩ | ⟨-, hb⟩ := mulrBody_cases s <;> cases hb.symm.trans h
  rfl

theorem pcalcBody_error {x : Cause} (h : pcalcBody s = .error x) : x = .badrec := by
  obtain ⟨-, hb⟩ | ⟨-, hb⟩ := pcalcBody_cases s <;> cases hb.symm.trans h
  rfl

theorem rndpBody_error {x : Cause} (h : rndpBody s = .error x) : x = .badrec := by
  obtain ⟨-, _, -, hb⟩ | ⟨-, hb⟩ := rndpBody_cases s <;> cases hb.symm.trans h
  rfl

/-- A cause a body raises stands in R211's table. -/
theorem mem_raisedCauses {i : Instr} {x : Cause} (h : commandBody i s = .error x) : (i, x) ∈ raisedCauses := by
  cases i with
  | kest => obtain rfl | rfl := kestBody_error h <;> decide
  | gld => obtain rfl := gldBody_error h; decide
  | mulr => obtain rfl := mulrBody_error h; decide
  | shortest => obtain rfl | rfl := shortestBody_error h <;> decide
  | pcalc => obtain rfl := pcalcBody_error h; decide
  | rndp => obtain rfl := rndpBody_error h; decide
  | nop | errclr | srst | decompD | decompS | bsel | dnorm | digits => cases h

/-- EINFO may hold the word of a command for every cause it raises. -/
theorem recordable_of_commandBody_error {i : Instr} {x : Cause} (h : commandBody i s = .error x) :
    recordable x (encode i) = true := by
  have htable : ∀ r ∈ raisedCauses, recordable r.2 (encode r.1) = true := by decide
  exact htable _ (mem_raisedCauses h)

end

/-! ### Illegal words -/

/-- A word whose bits 63:9 are zero is the command word of its two fields (R85). -/
theorem eq_commandWord_of_zeroFieldsOk {w : Word} (h : zeroFieldsOk w = true) :
    w = commandWord (opField w) (BitVec.ofBool (fmField w)) := by
  have hzero : w.extractLsb' 9 55 = 0 := by simpa [zeroFieldsOk] using h
  refine BitVec.eq_of_getLsbD_eq fun i hi => ?_
  rw [commandWord, BitVec.getLsbD_append, BitVec.getLsbD_append]
  obtain h8 | rfl | h9 : i < 8 ∨ i = 8 ∨ 9 ≤ i := by omega
  · simp [opField, h8]
  · simp [fmField]
  · have hbit := congrArg (·.getLsbD (i - 9)) hzero
    simp only [BitVec.getLsbD_extractLsb', show i - 9 < 55 by omega, show 9 + (i - 9) = i by omega] at hbit
    simpa [show ¬i < 8 by omega, show ¬i - 8 < 1 by omega] using hbit

/-- A legal word is one of the fourteen rows (R87, R89), so the decoder reads it. -/
theorem decode_of_legalWord {w : Word} (h : legalWord w = true) : ∃ i, decode w = .ok i := by
  simp only [legalWord, Bool.and_eq_true] at h
  obtain ⟨⟨hzero, hop⟩, hfm⟩ := h
  have hopcodes : ∀ op ∈ opcodes, ∀ fm : Bool, (fm = true → op = 0x10) →
      (decode (commandWord op (BitVec.ofBool fm))).toOption.isSome = true := by decide
  have hsome := hopcodes (opField w) (by simpa [opcodeOk] using hop) (fmField w) (by
    simpa [formatBitOk, Bool.or_eq_true, imp_iff_not_or] using hfm)
  rw [← eq_commandWord_of_zeroFieldsOk hzero] at hsome
  cases hd : decode w with
  | ok i => exact ⟨i, rfl⟩
  | error r => rw [hd] at hsome; cases hsome

/-- EINFO may hold a word the decoder rejects. -/
theorem recordable_of_decode_error {w : Word} {r : Illegal} (h : decode w = .error r) : recordable .illcmd w = true := by
  cases hw : legalWord w with
  | false => simp [recordable, hw]
  | true =>
    obtain ⟨i, hi⟩ := decode_of_legalWord hw
    cases hi.symm.trans h

/-! ### What keeps the invariant -/

/-- Entering a fault with a word that can have raised it keeps the invariant. -/
theorem inv_raise {s : State} {x : Cause} {w : Word} (hs : Inv s) (hw : recordable x w = true) : Inv (s.raise x w) := by
  obtain ⟨⟨hctrl, hstatus, hflags⟩, -⟩ := hs
  refine ⟨⟨hctrl, (statusFaulted_reserved _ _).trans hstatus, hflags⟩, ?_⟩
  have hcause : ∀ y : Cause, y ∈ [Cause.illcmd, .badclass, .oprange, .krange, .badrec] := by intro y; cases y <;> decide
  simp only [faultRecorded, State.raise_status, State.raise_einfo, statusErr_statusFaulted, statusCause_statusFaulted,
    Bool.not_true, Bool.false_and, Bool.false_or, Bool.true_and, List.any_eq_true]
  exact ⟨x, hcause x, by rw [hw, beq_self_eq_true]; rfl⟩

/-- STATUS and EINFO both 0 record no fault. -/
theorem faultRecorded_of_zero {s : State} (hstatus : s.status = 0) (heinfo : s.einfo = 0) : faultRecorded s = true := by
  rw [faultRecorded, hstatus, heinfo]
  decide

theorem inv_clearFault {s : State} (hs : Inv s) : Inv s.clearFault := by
  obtain ⟨⟨hctrl, -, hflags⟩, -⟩ := hs
  exact ⟨⟨hctrl, BitVec.zero_and, hflags⟩, faultRecorded_of_zero rfl rfl⟩

theorem inv_resetRegisters (s : State) : Inv s.resetRegisters :=
  ⟨⟨BitVec.zero_and, BitVec.zero_and, BitVec.zero_and⟩, faultRecorded_of_zero rfl rfl⟩

theorem store_controlKept (s : State) (r : Reg) (v : Word) : ControlKept s (s.store r v) := by
  cases r
  case ctrl => exact ⟨writeCtrl_reserved _ _, rfl, rfl, rfl⟩
  case flags => exact ⟨rfl, rfl, rfl, writeFlags_reserved _ _⟩
  all_goals exact ⟨rfl, rfl, rfl, rfl⟩

/-- Every command keeps the invariant. -/
theorem inv_exec {i : Instr} {s t : State} (hs : Inv s) (h : exec i s = .next t) : Inv t := by
  obtain ⟨-, he⟩ | ⟨-, he⟩ | ⟨hclr, hrst, he⟩ := exec_cases i s <;>
    obtain rfl := Host.Outcome.next.inj (he.symm.trans h)
  · exact inv_clearFault hs
  · exact inv_resetRegisters s
  · obtain ⟨-, hc⟩ | ⟨-, u, hb, hc⟩ | ⟨-, x, hb, hc⟩ := command_cases i (commandBody i) s <;> rw [hc]
    · exact hs
    · exact (commandBody_controlKept hclr hrst hb).inv hs
    · exact inv_raise hs (recordable_of_commandBody_error hb)

/-- Every write to CMD keeps the invariant. -/
theorem inv_runCommand {w : Word} {s t : State} (hs : Inv s) (h : runCommand w s = .next t) : Inv t := by
  obtain ⟨i, -, hr⟩ | ⟨r, hd, hr⟩ := runCommand_cases w s
  · exact inv_exec hs (hr.symm.trans h)
  · obtain rfl := Host.Outcome.next.inj (hr.symm.trans h)
    obtain ⟨-, hc⟩ | ⟨-, hc⟩ := illegalCommand_cases s w <;> rw [hc]
    · exact hs
    · exact inv_raise hs (recordable_of_decode_error hd)

theorem inv_write {i : Fin 32} {v : Word} {s t : State} (hs : Inv s) (h : serve (.write i v) s = .next t) : Inv t := by
  obtain ⟨-, hw⟩ | ⟨-, r, -, hw⟩ | ⟨-, -, hw⟩ := serve_write_cases i v s
  · exact inv_runCommand hs (hw.symm.trans h)
  · obtain rfl := Host.Outcome.next.inj (hw.symm.trans h)
    exact (store_controlKept s r v).inv hs
  · obtain rfl := Host.Outcome.next.inj (hw.symm.trans h)
    exact hs

/-- Every host action keeps the invariant: a read changes no register, and a bus write is the write of its register. -/
theorem inv_serve {a : HostAction} {s t : State} (hs : Inv s) (h : serve a s = .next t) : Inv t := by
  cases a with
  | read i => obtain rfl := Host.Outcome.next.inj h; exact hs
  | write i v => exact inv_write hs h
  | reset => obtain rfl := Host.Outcome.next.inj h; exact inv_resetRegisters s
  | busRead offset width =>
    obtain ⟨i, -, hb⟩ | ⟨-, hb⟩ := serve_busRead_cases offset width s
    · obtain rfl := Host.Outcome.next.inj (hb.symm.trans h); exact hs
    · cases hb.symm.trans h
  | busWrite offset bytes =>
    obtain ⟨i, -, hb⟩ | ⟨-, hb⟩ := serve_busWrite_cases offset bytes s
    · exact inv_write hs (hb.symm.trans h)
    · cases hb.symm.trans h

/-- Settles O53: the port takes the pending action off, which the invariant does not read, and serves it. -/
theorem stepKeepsInvariant : Obligations.StepKeepsInvariant := by
  intro s t hs h
  obtain ⟨-, hstep⟩ | ⟨a, rest, -, hstep⟩ := step_cases s
  · obtain rfl := Host.Outcome.next.inj (hstep.symm.trans h)
    exact hs
  · exact inv_serve (s := { s with pending := rest }) hs (hstep.symm.trans h)

/-- Settles O52: the reset state is what a reset leaves. -/
theorem resetMeetsInvariant : Obligations.ResetMeetsInvariant := inv_resetRegisters State.reset

end Sys2Proof.Machine
end

section
/-! The state file (10_state), part 2: what the host reads and writes at each index (R21, R42, R61), the reset (R46), and where
the fields of the control registers stand (R22, R23, R26). -/

namespace Sys2Proof.Machine

/-- A step with an action pending serves it on the state whose port has lost it. -/
theorem step_of_pending {s : State} {a : HostAction} {rest : List HostAction} (h : s.pending = a :: rest) :
    step s = serve a { s with pending := rest } := by
  simp [step, deliver, h]

/-! ### The register map -/

/-- The indices 22 to 31 are the unassigned ones (R21). -/
theorem regAt_eq_none_iff (i : Fin 32) : regAt i = none ↔ 22 ≤ i := by
  revert i
  decide

/-- The five registers a host write does not store whole, by their indices (R21). -/
theorem regAt_control : ∀ i : Fin 32, ∀ r ∈ regAt i,
    (i = 0 ↔ r = .ctrl) ∧ (i = 1 ↔ r = .status) ∧ (i = 2 ↔ r = .cmd) ∧ (i = 3 ↔ r = .einfo) ∧ (i = 4 ↔ r = .flags) := by
  decide

theorem not_unassigned_of_regAt {i : Fin 32} {r : Reg} (h : regAt i = some r) : ¬22 ≤ i := by
  rw [← regAt_eq_none_iff, h]
  exact Option.some_ne_none r

theorem hostRead_of_regAt {s : State} {i : Fin 32} {r : Reg} (h : regAt i = some r) : s.hostRead i = s.view r := by
  simp [State.hostRead, h]

theorem hostRead_unassigned (s : State) {i : Fin 32} (h : 22 ≤ i) : s.hostRead i = 0 := by
  simp [State.hostRead, (regAt_eq_none_iff i).mpr h]

/-! ### Reads -/

/-- A word cut to the bits of one field is that field in its place. -/
theorem and_fieldMask (v : Word) (lo n : ℕ) :
    v &&& (BitVec.allOnes n).setWidth 64 <<< lo = (v.extractLsb' lo n).setWidth 64 <<< lo := by
  refine BitVec.eq_of_getLsbD_eq fun i hi => ?_
  by_cases hlo : i < lo
  · simp [hlo]
  · have hcancel : lo + (i - lo) = i := by omega
    simp [hi, hlo, hcancel, Bool.and_comm]

/-- CTRL reads as its one field (R22). -/
theorem viewCtrl_eq (v : Word) : viewCtrl v = (v.extractLsb' 0 1).setWidth 64 :=
  (and_fieldMask v 0 1).trans (BitVec.shiftLeft_zero _)

/-- STATUS reads as its two fields (R23). -/
theorem viewStatus_eq (v : Word) :
    viewStatus v = (v.extractLsb' 0 1).setWidth 64 ||| (v.extractLsb' 8 4).setWidth 64 <<< 8 := by
  have hmask : (0x0000000000000F01 : Word) =
      (BitVec.allOnes 1).setWidth 64 <<< 0 ||| (BitVec.allOnes 4).setWidth 64 <<< 8 := by decide
  rw [viewStatus, hmask, BitVec.and_or_distrib_left, and_fieldMask, and_fieldMask, BitVec.shiftLeft_zero]

/-- FLAGS reads as its low 16 bits (R26). -/
theorem viewFlags_eq (v : Word) : viewFlags v = (v.extractLsb' 0 16).setWidth 64 :=
  (and_fieldMask v 0 16).trans (BitVec.shiftLeft_zero _)

/-- Settles O6: index by index, the register the map gives as the host sees it. -/
theorem hostReadReturnsRegister : Obligations.HostReadReturnsRegister := by
  refine fun s => ⟨?_, fun i rest h => step_of_pending h⟩
  rw [← viewCtrl_eq, ← viewStatus_eq, ← viewFlags_eq]
  rfl

/-! ### Writes -/

/-- CTRL reads as bit 0 of what was written (R22). -/
theorem viewCtrl_writeCtrl (v w : Word) : viewCtrl (writeCtrl v w) = w &&& 1 := by
  have hfield : (writeCtrl v w).extractLsb' 0 1 = w.extractLsb' 0 1 := getField_putField _ _ _ (by decide)
  rw [viewCtrl_eq, hfield, ← viewCtrl_eq]
  rfl

/-- FLAGS reads as bits 15:0 of what was written (R28). -/
theorem viewFlags_writeFlags (v w : Word) : viewFlags (writeFlags v w) = w &&& 0xFFFF := by
  have hfield : (writeFlags v w).extractLsb' 0 16 = w.extractLsb' 0 16 := getField_putField _ _ _ (by decide)
  rw [viewFlags_eq, hfield, ← viewFlags_eq]
  rfl

/-- What a register reads as after a host write to it (R22, R28, R42). -/
theorem view_store_self (s : State) (r : Reg) (v : Word) (h : r ≠ .cmd) :
    (s.store r v).view r =
      if r = .ctrl then v &&& 1 else if r = .flags then v &&& 0xFFFF
      else if r = .status ∨ r = .einfo then s.view r else v := by
  cases r
  case cmd => exact absurd rfl h
  case ctrl => exact viewCtrl_writeCtrl _ _
  case flags => exact viewFlags_writeFlags _ _
  all_goals rfl

/-- STATUS and EINFO are read-only (R42). -/
theorem store_readOnly (s : State) {r : Reg} (v : Word) (h : r = .status ∨ r = .einfo) : s.store r v = s := by
  obtain rfl | rfl := h <;> rfl

/-- A host write to a read-only or an unassigned index changes nothing (R42). -/
theorem serve_write_ignored (s : State) {i : Fin 32} (v : Word) (h : i = 1 ∨ i = 3 ∨ 22 ≤ i) :
    serve (.write i v) s = .next s := by
  obtain ⟨rfl, -⟩ | ⟨-, r, hr, hw⟩ | ⟨-, -, hw⟩ := serve_write_cases i v s
  · exact absurd h (by decide)
  · obtain ⟨-, hstatus, -, heinfo, -⟩ := regAt_control i r hr
    have hassigned : ¬22 ≤ i := not_unassigned_of_regAt hr
    rw [hw, store_readOnly s v (by tauto)]
  · exact hw

/-- Settles O7: a write to an assigned index is the store of its register, and another changes nothing. -/
theorem hostWriteStoresOneRegister : Obligations.HostWriteStoresOneRegister := by
  intro s i v rest hp hi
  rw [step_of_pending hp]
  obtain ⟨h2, -⟩ | ⟨-, r, hr, hw⟩ | ⟨-, hr, hw⟩ := serve_write_cases i v { s with pending := rest }
  · exact absurd h2 hi
  · obtain ⟨hctrl, hstatus, hcmd, heinfo, hflags⟩ := regAt_control i r hr
    have hassigned : ¬22 ≤ i := not_unassigned_of_regAt hr
    refine ⟨_, hw, store_pending _ _ _, store_observed _ _ _, ?_, fun h => ?_, fun r' hr' => ?_⟩
    · rw [hostRead_of_regAt hr, hostRead_of_regAt hr, view_store_self _ _ _ (mt hcmd.mpr hi)]
      simp only [hctrl, hstatus, heinfo, hflags, hassigned, or_false]
      rfl
    · exact Host.Outcome.next.inj (hw.symm.trans (serve_write_ignored _ v h))
    · exact content_store_of_ne _ v fun h => hr' (h ▸ hr)
  · have h22 := (regAt_eq_none_iff i).mp hr
    refine ⟨_, hw, rfl, rfl, ?_, fun _ => rfl, fun _ _ => rfl⟩
    rw [if_neg, if_neg, if_pos (.inr (.inr h22))]
    · rfl
    · rintro rfl; exact absurd h22 (by decide)
    · rintro rfl; exact absurd h22 (by decide)

/-- Settles O8: the map gives those indices no register, and the store of STATUS or EINFO is the state itself. -/
theorem unassignedIndicesDoNothing : Obligations.UnassignedIndicesDoNothing := by
  refine fun s i v rest => ⟨fun h22 hp => ?_, fun h hp => ?_⟩
  · rw [step_of_pending hp, ← hostRead_unassigned s h22]
    rfl
  · rw [step_of_pending hp]
    exact serve_write_ignored _ v (by tauto)

/-! ### Reset -/

/-- Every register holds 0 after a reset (R46). -/
theorem content_resetRegisters (s : State) (r : Reg) : s.resetRegisters.content r = 0 := by cases r <;> rfl

/-- Settles O12: the reset clears the registers and leaves the port, which has lost the reset. -/
theorem resetZeroesEveryRegister : Obligations.ResetZeroesEveryRegister := by
  intro s rest hp
  exact ⟨_, step_of_pending hp, content_resetRegisters _, .inl ⟨rfl, rfl, rfl⟩, rfl, rfl⟩

/-! ### Fields -/

/-- A field of a register in numbers. -/
theorem toNat_getField (w : Word) (lo n : ℕ) : (getField w lo n).toNat = w.toNat / 2 ^ lo % 2 ^ n := by
  simp [getField, Nat.shiftRight_eq_div_pow]

/-- Bit 0 of a register in numbers. -/
theorem getLsbD_zero_eq_true_iff (v : Word) : v.getLsbD 0 = true ↔ v.toNat % 2 = 1 := by
  rw [getLsbD_eq_true_iff, Nat.pow_zero, Nat.div_one]

/-- Settles O56: a one-bit field is a bit of its register, and the others are `getField` at their place. -/
theorem fieldsStandWhereTabled : Obligations.FieldsStandWhereTabled := by
  intro v
  exact ⟨toNat_getField v 1 3, getLsbD_eq_true_iff v 4, getLsbD_eq_true_iff v 5, getLsbD_eq_true_iff v 6,
    getLsbD_eq_true_iff v 7, getLsbD_eq_true_iff v 8, getLsbD_eq_true_iff v 9, getLsbD_eq_true_iff v 10,
    getLsbD_eq_true_iff v 11, toNat_getField v 12 2, getLsbD_eq_true_iff v 14, getLsbD_eq_true_iff v 15,
    getLsbD_zero_eq_true_iff v, toNat_getField v 8 4, getLsbD_zero_eq_true_iff v⟩

end Sys2Proof.Machine
end

section
/-! The state file (10_state), part 3: the commands that write the record leave it valid (R38, R219). -/

namespace Sys2Proof.Machine

/-! ### Digit counts that fit a register -/

/-- A value below 2^64 has at most 20 digits. -/
theorem len10_le_twenty {x : ℕ} (h : x < 2 ^ 64) : len10 x ≤ 20 := by
  rw [len10_le_iff]
  omega

/-- A non-zero value that fits F, with its digit count in N, is a valid record (R16). -/
theorem recOK_word {f : ℕ} (e : Word) (h0 : f ≠ 0) (hf : f < 2 ^ 64) : RecOK (word f) e (word (len10 f)) := by
  have hlen := len10_le_twenty hf
  refine .inr ⟨fun h => h0 ?_, ?_⟩
  · rw [← toNat_word f hf, h]
    rfl
  · rw [toNat_word f hf, toNat_word _ (by omega)]

/-- A power of ten has one digit more than its exponent. -/
theorem len10_pow (p : ℕ) : len10 (10 ^ p) = p + 1 :=
  ((eq_len10_iff (10 ^ p) (p + 1) (by positivity)).mpr ⟨by omega, le_rfl, Nat.pow_lt_pow_right (by decide) (by omega)⟩).symm

/-! ### DNORM and BSEL -/

/-- What DNORM writes is valid (R151). -/
theorem recordOK_dnormRecord {f : ℕ} (e : ℤ) (s : State) (hf : f < 2 ^ 64) : recordOK (dnormRecord f e s) := by
  obtain ⟨-, hr⟩ | ⟨h0, hr⟩ := dnormRecord_cases f e s <;> rw [hr]
  · exact .inl ⟨rfl, rfl, rfl⟩
  · have hpos := Nat.div_pos (Nat.le_of_dvd h0 (tz10_spec f h0).1) (Nat.pow_pos (by decide))
    exact recOK_word _ hpos.ne' ((Nat.div_le_self _ _).trans_lt hf)

/-- The full test takes VB div 4 or its successor (R130). -/
theorem selectFull_cand_le (vb vbl vbr out : ℕ) : (selectFull vb vbl vbr out).cand ≤ vb / 4 + 1 := by
  simp only [selectFull]
  split_ifs <;> simp

/-- No candidate is more than ten above VB div 4 (R130). -/
theorem select_cand_le (vb vbl vbr out : ℕ) : (select vb vbl vbr out).cand ≤ vb / 4 + 10 := by
  have hfull := selectFull_cand_le vb vbl vbr out
  simp only [select]
  split_ifs
  · dsimp only
    omega
  · dsimp only
    omega
  · exact hfull.trans (by omega)
  · exact hfull.trans (by omega)

theorem recordOK_of_bselBody {s t : State} (h : bselBody s = .ok t) : recordOK t := by
  obtain ⟨f, e, n, r, hr, hb, hrecord⟩ := bselBody_eq s
  obtain rfl := Except.ok.inj (hb.symm.trans h)
  obtain ⟨-, rfl, rfl, rfl⟩ | ⟨h0, rfl, rfl, rfl⟩ := hrecord
  · exact .inl ⟨rfl, rfl, rfl⟩
  · have hcand := select_cand_le s.vb.toNat s.vbl.toNat s.vbr.toNat (s.c.toNat % 2)
    have hvb := s.vb.isLt
    exact recOK_word _ h0.ne' (by rw [hr]; omega)

/-! ### SHORTEST -/

/-- Each path of SHORTEST ends in the zero record or in DNORM's (R134). -/
theorem recordOK_of_shortestBody {s t : State} (h : shortestBody s = .ok t) : recordOK t := by
  obtain rfl | ⟨f, hf, rfl⟩ | hgeneral := shortestBody_ok_cases h
  · exact .inl ⟨rfl, rfl, rfl⟩
  · exact recordOK_dnormRecord _ _ hf
  · obtain ⟨_, _, _, s4, -, -, -, -, hdnorm⟩ := (generalPath_ok_iff s t).mp hgeneral
    obtain rfl := Except.ok.inj hdnorm
    exact recordOK_dnormRecord _ _ s4.f.isLt

/-! ### RNDP -/

/-- What `round` returns is zero, or a value that fits F with its digit count (R158). -/
def Rounded.Valid (r : Rounded) : Prop := (r.f = 0 ∧ r.e = 0 ∧ r.n = 0) ∨ (r.f ≠ 0 ∧ r.f < 2 ^ 64 ∧ r.n = len10 r.f)

theorem Rounded.Valid.recOK {r : Rounded} (h : r.Valid) : RecOK (word r.f) (u64 r.e) (word r.n) := by
  obtain ⟨hf, he, hn⟩ | ⟨h0, hf, hn⟩ := h
  · rw [hf, he, hn]
    exact .inl ⟨rfl, rfl, rfl⟩
  · rw [hn]
    exact recOK_word _ h0 hf

/-- An n-digit f without its last n - p digits has p digits. -/
theorem div_pow_bounds {f n p : ℕ} (h0 : f ≠ 0) (hn : n = len10 f) (hp : p < n) :
    f / 10 ^ (n - p) < 10 ^ p ∧ (p ≠ 0 → 10 ^ (p - 1) ≤ f / 10 ^ (n - p)) := by
  obtain ⟨-, hlow, hhigh⟩ := (eq_len10_iff f n h0).mp hn
  refine ⟨?_, fun hp0 => ?_⟩
  · rwa [Nat.div_lt_iff_lt_mul (by positivity), ← pow_add, Nat.add_sub_cancel' hp.le]
  · rwa [Nat.le_div_iff_mul_le (by positivity), ← pow_add, show p - 1 + (n - p) = n - 1 by omega]

/-- Rounding a valid record to fewer digits: the carry gives a power of ten, and any other non-zero result has p digits. -/
theorem roundDrop_valid {f n p : ℕ} (e : ℤ) (jdk : Bool) (h0 : f ≠ 0) (hf : f < 2 ^ 64) (hn : n = len10 f) (hp : p < n) :
    (roundDrop f e n p jdk).Valid := by
  obtain ⟨hlt, hge⟩ := div_pow_bounds h0 hn hp
  obtain ⟨-, hlow, -⟩ := (eq_len10_iff f n h0).mp hn
  have hpow : 10 ^ p < 2 ^ 64 := ((Nat.pow_le_pow_right (by decide) (by omega)).trans hlow).trans_lt hf
  have hup : (if 10 ^ (n - p) ≤ 2 * (f % 10 ^ (n - p)) then 1 else 0) ≤ 1 := by split <;> omega
  simp only [roundDrop]
  generalize (if 10 ^ (n - p) ≤ 2 * (f % 10 ^ (n - p)) then 1 else 0) = up at hup
  generalize f / 10 ^ (n - p) = qt at hlt hge
  split_ifs with hzero hcarry hjdk
  · exact .inl ⟨rfl, rfl, rfl⟩
  · refine .inr ⟨by positivity, (Nat.pow_le_pow_right (by decide) (Nat.sub_le p 1)).trans_lt hpow, ?_⟩
    rw [len10_pow, Nat.sub_add_cancel hjdk.2]
  · exact .inr ⟨by positivity, hpow, (len10_pow p).symm⟩
  · have hp0 : p ≠ 0 := by rintro rfl; omega
    have hsig : qt + up < 10 ^ p := by omega
    have hlen := (eq_len10_iff _ p hzero).mpr ⟨by omega, (hge hp0).trans (by omega), hsig⟩
    exact .inr ⟨hzero, hsig.trans hpow, hlen⟩

/-- RNDP rounds a valid record to a valid one (R161). -/
theorem roundRecord_valid {f n : ℕ} (e p : ℤ) (jdk : Bool) (hf : f < 2 ^ 64) (hn : f ≠ 0 → n = len10 f) :
    (roundRecord f e n p jdk).Valid := by
  unfold roundRecord
  split_ifs with hzero hkeep
  · exact .inl ⟨rfl, rfl, rfl⟩
  · have h0 : f ≠ 0 := fun h => hzero (.inl h)
    exact .inr ⟨h0, hf, hn h0⟩
  · have h0 : f ≠ 0 := fun h => hzero (.inl h)
    exact roundDrop_valid e jdk h0 hf (hn h0) (by omega)

theorem recordOK_of_rndpBody {s t : State} (h : rndpBody s = .ok t) : recordOK t := by
  obtain ⟨hrec, r, hr, hb⟩ | ⟨-, hb⟩ := rndpBody_cases s
  · obtain rfl := Except.ok.inj (hb.symm.trans h)
    have hlen : s.f.toNat ≠ 0 → s.n.toNat = len10 s.f.toNat := fun h0 =>
      hrec.elim (fun hz => absurd (congrArg BitVec.toNat hz.1) h0) And.right
    have hvalid : r.Valid := hr ▸ roundRecord_valid (s64 s.e) (s64 s.p) (ctrlJdk s.ctrl) s.f.isLt hlen
    exact hvalid.recOK
  · cases hb.symm.trans h

/-! ### DIGITS -/

/-- DIGITS recounts N, which makes any record valid but one with F = 0 and E other than 0 (R154, R219). -/
theorem recordOK_digitsWrites {s : State} (h : ¬(s.f = 0 ∧ s.e ≠ 0)) : recordOK (digitsWrites s) := by
  by_cases h0 : s.f = 0
  · have he : s.e = 0 := not_not.mp fun he => h ⟨h0, he⟩
    exact .inl ⟨h0, he, by rw [digitsWrites, State.setDigits_n, h0]; rfl⟩
  · have hlen := len10_le_twenty s.f.isLt
    exact .inr ⟨h0, toNat_word _ (by omega)⟩

/-! ### The record after a command -/

/-- A gated command that leaves no fault has run its body. -/
theorem commandBody_of_exec {i : Instr} {s t : State} (hclr : i ≠ .errclr) (hrst : i ≠ .srst)
    (hs : statusErr s.status = false) (h : exec i s = .next t) (ht : statusErr t.status = false) :
    commandBody i s = .ok t := by
  obtain ⟨rfl, -⟩ | ⟨rfl, -⟩ | ⟨-, -, he⟩ := exec_cases i s
  · exact absurd rfl hclr
  · exact absurd rfl hrst
  · obtain rfl := Host.Outcome.next.inj (he.symm.trans h)
    obtain ⟨hfault, -⟩ | ⟨-, u, hb, hc⟩ | ⟨-, x, -, hc⟩ := command_cases i (commandBody i) s
    · exact absurd hfault (by rw [State.faultStands, hs]; exact Bool.false_ne_true)
    · rw [hc, hb]
    · rw [hc, State.raise_status, statusErr_statusFaulted] at ht
      cases ht

/-- Settles O48: each of the five bodies leaves a valid record. -/
theorem commandsLeaveValidRecord : Obligations.CommandsLeaveValidRecord := by
  intro i s t hi hs h ht hdigits
  have hbody := commandBody_of_exec (by rintro rfl; simp at hi) (by rintro rfl; simp at hi) hs h ht
  simp only [List.mem_cons, List.not_mem_nil, or_false] at hi
  obtain rfl | rfl | rfl | rfl | rfl := hi
  · exact recordOK_of_bselBody hbody
  · exact recordOK_of_shortestBody hbody
  · obtain rfl := Except.ok.inj hbody
    exact recordOK_dnormRecord _ _ s.f.isLt
  · exact recordOK_of_rndpBody hbody
  · obtain rfl := Except.ok.inj hbody
    exact recordOK_digitsWrites (hdigits rfl)

end Sys2Proof.Machine
end

section
/-! The host port (20_memory): which reads and writes repeat (R64), bus accesses (R62, R63), and that every transaction completes
(R69, R250). -/

namespace Sys2Proof.Machine

/-! ### A write to CMD -/

/-- Settles O5: a write to CMD is the command its word decodes to. -/
theorem stepRunsDecodedCommand : Obligations.StepRunsDecodedCommand := by
  intro s w i rest hp hdecode
  rw [step_of_pending hp]
  obtain ⟨-, hw⟩ | ⟨h2, -⟩ | ⟨h2, -⟩ := serve_write_cases 2 w { s with pending := rest }
  · rw [hw, runCommand, hdecode]
  · exact absurd rfl h2
  · exact absurd rfl h2

/-! ### Repeated accesses -/

/-- Writing a field again with the same value changes nothing. -/
theorem putField_putField_self (w : Word) (lo : ℕ) {n : ℕ} (x : BitVec n) (hn : lo + n ≤ 64) :
    putField (putField w lo x) lo x = putField w lo x := by
  refine BitVec.eq_of_getLsbD_eq fun i _ => ?_
  rw [getLsbD_putField _ _ _ _ hn, getLsbD_putField _ _ _ _ hn]
  split <;> rfl

theorem writeCtrl_writeCtrl_self (ctrl v : Word) : writeCtrl (writeCtrl ctrl v) v = writeCtrl ctrl v :=
  putField_putField_self _ _ _ (by decide)

theorem writeFlags_writeFlags_self (flags v : Word) : writeFlags (writeFlags flags v) v = writeFlags flags v :=
  putField_putField_self _ _ _ (by decide)

/-- Storing a value again changes nothing: a register takes its field of the value whatever it held (R22, R28). -/
theorem store_store_self (s : State) (r : Reg) (v : Word) : (s.store r v).store r v = s.store r v := by
  cases r
  case ctrl => exact congrArg (fun c => { s with ctrl := c }) (writeCtrl_writeCtrl_self s.ctrl v)
  case flags => exact congrArg (fun f => { s with flags := f }) (writeFlags_writeFlags_self s.flags v)
  all_goals rfl

/-- Settles O9: a write other than to CMD is a store or nothing, and a read only lengthens the observations. -/
theorem accessesAreIdempotent : Obligations.AccessesAreIdempotent := by
  intro s i v hi
  suffices h : ∃ t, serve (.write i v) s = .next t ∧ serve (.write i v) t = .next t by
    obtain ⟨t, hfirst, hagain⟩ := h
    exact ⟨t, hfirst, hagain, _, rfl, fun _ => rfl, fun _ => rfl⟩
  obtain ⟨h2, -⟩ | ⟨-, r, hr, hw⟩ | ⟨-, -, hw⟩ := serve_write_cases i v s
  · exact absurd h2 hi
  · refine ⟨s.store r v, hw, ?_⟩
    obtain ⟨h2, -⟩ | ⟨-, r', hr', hw'⟩ | ⟨-, hnone, -⟩ := serve_write_cases i v (s.store r v)
    · exact absurd h2 hi
    · obtain rfl := Option.some.inj (hr.symm.trans hr')
      rw [hw', store_store_self]
    · cases hr.symm.trans hnone
  · exact ⟨s, hw, hw⟩

/-! ### Bus accesses -/

/-- Eight bytes that hold the bits of a register, lowest first, are its lanes (R63). -/
theorem eq_laneBytes {bytes : List Byte} {v : Word} (hlen : bytes.length = 8)
    (h : ∀ j, j < 8 → bytes[j]? = some (v.extractLsb' (8 * j) 8)) : bytes = laneBytes v := by
  refine List.ext_getElem? fun j => ?_
  by_cases hj : j < 8
  · rw [h j hj, laneBytes_getElem? v j hj]
  · rw [List.getElem?_eq_none (by omega), List.getElem?_eq_none (by rw [laneBytes_length]; omega)]

/-- A bus read of a whole register observes its lanes (R63). -/
theorem serve_busRead_whole (i : Fin 32) (s : State) :
    serve (.busRead (8 * i.val) 8) s = .next { s with observed := s.observed ++ [.lanes (laneBytes (s.hostRead i))] } := by
  obtain ⟨i', hi', hb⟩ | ⟨hnone, -⟩ := serve_busRead_cases (8 * i.val) 8 s
  · rw [busIndex_whole] at hi'
    obtain rfl := Option.some.inj hi'
    exact hb
  · cases (busIndex_whole i).symm.trans hnone

/-- A bus write of the lanes of a value at a register is the write of the value (R63). -/
theorem serve_busWrite_laneBytes (i : Fin 32) (v : Word) (s : State) :
    serve (.busWrite (8 * i.val) (laneBytes v)) s = serve (.write i v) s := by
  obtain ⟨i', hi', hb⟩ | ⟨hnone, -⟩ := serve_busWrite_cases (8 * i.val) (laneBytes v) s
  · rw [laneBytes_length, busIndex_whole] at hi'
    obtain rfl := Option.some.inj hi'
    rw [hb, littleEndian_laneBytes, word_toNat]
  · rw [laneBytes_length, busIndex_whole] at hnone
    cases hnone

/-- A bus read of anything but one whole register of the block has no step (R62). -/
theorem serve_busRead_refused {offset width : ℕ} (s : State) (h : width ≠ 8 ∨ offset % 8 ≠ 0 ∨ 256 ≤ offset) :
    serve (.busRead offset width) s = .refused .notATransaction := by
  have hnone := (busIndex_eq_none_iff offset width).mpr h
  obtain ⟨i, hi, -⟩ | ⟨-, hb⟩ := serve_busRead_cases offset width s
  · cases hi.symm.trans hnone
  · exact hb

/-- A bus write of anything but one whole register of the block has no step (R62). -/
theorem serve_busWrite_refused {offset : ℕ} {bytes : List Byte} (s : State)
    (h : bytes.length ≠ 8 ∨ offset % 8 ≠ 0 ∨ 256 ≤ offset) :
    serve (.busWrite offset bytes) s = .refused .notATransaction := by
  have hnone := (busIndex_eq_none_iff offset bytes.length).mpr h
  obtain ⟨i, hi, -⟩ | ⟨-, hb⟩ := serve_busWrite_cases offset bytes s
  · cases hi.symm.trans hnone
  · exact hb

/-- Settles O10: the lanes of a register spell it both ways, and only whole registers are served. -/
theorem busAccessIsRegisterTransaction : Obligations.BusAccessIsRegisterTransaction := by
  refine fun s i v rest offset width bytes => ⟨fun hp => ?_, fun hlen hbytes => ?_, fun hp h => ?_, fun hp h => ?_⟩
  · exact ⟨laneBytes (s.hostRead i), laneBytes_length _, laneBytes_getElem? _,
      (step_of_pending hp).trans (serve_busRead_whole i { s with pending := rest })⟩
  · rw [eq_laneBytes hlen hbytes, serve_busWrite_laneBytes]
  · exact (step_of_pending hp).trans (serve_busRead_refused _ h)
  · exact (step_of_pending hp).trans (serve_busWrite_refused _ h)

/-! ### The host port through a command -/

/-- The two ends of the host port (R250; log entry 1). -/
def State.port (s : State) : List HostAction × List Observation := (s.pending, s.observed)

section
variable {s t : State}

theorem kestBody_port (h : kestBody s = .ok t) : t.port = s.port := by
  obtain ⟨-, -, rfl⟩ := (kestBody_ok_iff s t).mp h
  rfl

theorem gldBody_port (h : gldBody s = .ok t) : t.port = s.port := by
  obtain ⟨_, _, -, -, -, hb⟩ | ⟨-, hb⟩ := gldBody_cases s <;> cases hb.symm.trans h
  rfl

theorem mulrBody_port (h : mulrBody s = .ok t) : t.port = s.port := by
  obtain ⟨-, hb⟩ | ⟨-, hb⟩ := mulrBody_cases s <;> cases hb.symm.trans h
  rfl

theorem bselBody_port (h : bselBody s = .ok t) : t.port = s.port := by
  obtain ⟨_, _, _, _, -, hb, -⟩ := bselBody_eq s
  cases hb.symm.trans h
  rfl

theorem dnormRecord_port (f : ℕ) (e : ℤ) (s : State) : (dnormRecord f e s).port = s.port := by
  obtain ⟨-, hr⟩ | ⟨-, hr⟩ := dnormRecord_cases f e s <;> rw [hr] <;> rfl

theorem generalPath_port (h : generalPath s = .ok t) : t.port = s.port := by
  obtain ⟨s1, s2, s3, s4, hkest, hgld, hmulr, hbsel, hdnorm⟩ := (generalPath_ok_iff s t).mp h
  obtain rfl := Except.ok.inj hdnorm
  calc (dnormRecord s4.f.toNat (s64 s4.e) s4).port = s4.port := dnormRecord_port _ _ _
    _ = s3.port := bselBody_port hbsel
    _ = s2.port := mulrBody_port hmulr
    _ = s1.port := gldBody_port hgld
    _ = s.port := kestBody_port hkest

theorem shortestBody_port (h : shortestBody s = .ok t) : t.port = s.port := by
  obtain rfl | ⟨_, -, rfl⟩ | hgeneral := shortestBody_ok_cases h
  · rfl
  · exact dnormRecord_port _ _ _
  · exact generalPath_port hgeneral

theorem pcalcBody_port (h : pcalcBody s = .ok t) : t.port = s.port := by
  obtain ⟨-, hb⟩ | ⟨-, hb⟩ := pcalcBody_cases s <;> cases hb.symm.trans h
  rfl

theorem rndpBody_port (h : rndpBody s = .ok t) : t.port = s.port := by
  obtain ⟨-, _, -, hb⟩ | ⟨-, hb⟩ := rndpBody_cases s <;> cases hb.symm.trans h
  rfl

/-- A body that completes touches neither end of the host port. -/
theorem commandBody_port {i : Instr} (h : commandBody i s = .ok t) : t.port = s.port := by
  cases i with
  | kest => exact kestBody_port h
  | gld => exact gldBody_port h
  | mulr => exact mulrBody_port h
  | bsel => exact bselBody_port h
  | shortest => exact shortestBody_port h
  | dnorm => obtain rfl := Except.ok.inj h; exact dnormRecord_port _ _ _
  | pcalc => exact pcalcBody_port h
  | rndp => exact rndpBody_port h
  | nop | errclr | srst | decompD | decompS | digits => obtain rfl := Except.ok.inj h; rfl

/-- No command touches the host port, completed, ignored or faulting. -/
theorem exec_port {i : Instr} (h : exec i s = .next t) : t.port = s.port := by
  obtain ⟨-, he⟩ | ⟨-, he⟩ | ⟨-, -, he⟩ := exec_cases i s <;> obtain rfl := Host.Outcome.next.inj (he.symm.trans h)
  · rfl
  · rfl
  · obtain ⟨-, hc⟩ | ⟨-, u, hb, hc⟩ | ⟨-, x, -, hc⟩ := command_cases i (commandBody i) s <;> rw [hc]
    · exact commandBody_port hb
    · rfl

end

/-! ### Every transaction completes -/

/-- Any word written to CMD has a next state, with the host port as it was. -/
theorem runCommand_next (w : Word) (s : State) : ∃ t, runCommand w s = .next t ∧ t.port = s.port := by
  obtain ⟨i, -, hr⟩ | ⟨_, -, hr⟩ := runCommand_cases w s
  · obtain ⟨t, ht⟩ := exec_next i s
    exact ⟨t, hr.trans ht, exec_port ht⟩
  · refine ⟨_, hr, ?_⟩
    obtain ⟨-, hc⟩ | ⟨-, hc⟩ := illegalCommand_cases s w <;> rw [hc]
    rfl

/-- Any write has a next state, with the host port as it was. -/
theorem serve_write_next (i : Fin 32) (v : Word) (s : State) : ∃ t, serve (.write i v) s = .next t ∧ t.port = s.port := by
  obtain ⟨-, hw⟩ | ⟨-, r, -, hw⟩ | ⟨-, -, hw⟩ := serve_write_cases i v s
  · rw [hw]
    exact runCommand_next v s
  · exact ⟨_, hw, Prod.ext (store_pending s r v) (store_observed s r v)⟩
  · exact ⟨s, hw, rfl⟩

/-- Settles O11: serving a read or the reset answers at once, and a write leaves the port that has lost it. -/
theorem everyTransactionCompletes : Obligations.EveryTransactionCompletes := by
  refine fun s rest => ⟨fun hp => ?_, fun i hp => ?_, fun i v hp => ?_, fun hp => ?_⟩
  · obtain ⟨-, hstep⟩ | ⟨a, tail, hcons, -⟩ := step_cases s
    · exact hstep
    · cases hp.symm.trans hcons
  · exact ⟨_, _, step_of_pending hp, rfl, rfl⟩
  · obtain ⟨t, ht, hport⟩ := serve_write_next i v { s with pending := rest }
    obtain ⟨hpending, hobserved⟩ := Prod.mk.inj hport
    exact ⟨t, (step_of_pending hp).trans ht, hpending, hobserved⟩
  · exact ⟨_, step_of_pending hp, rfl, rfl⟩

end Sys2Proof.Machine
end

section
/-! The checksums of the constant table (21_constant_table R83). Each is a fold over the list of R84, closed and decidable, so the
kernel evaluates it. -/

namespace Sys2Proof.Machine

/-- R80: one entry for each k from -324 to 292. -/
theorem constantTable_length : constantTable.length = 617 := by decide +kernel

/-- R83 on the words g1(k). -/
theorem constantTable_xor_high : constantTable.foldl (fun acc x => acc ^^^ x.1) 0 = 0x7A44F640C65284D2 := by
  decide +kernel

/-- R83 on the words g0(k). -/
theorem constantTable_xor_low : constantTable.foldl (fun acc x => acc ^^^ x.2) 0 = 0x254880F770BADFE0 := by
  decide +kernel

/-- R83 on the entries g(k), split at bit 63 (R81). -/
theorem constantTable_sum :
    constantTable.foldl (fun acc x => (acc + x.1.toNat * 2 ^ 63 + x.2.toNat) % 2 ^ 64) 0 = 0x3DA962DB8616C096 := by
  decide +kernel

/-- Settles O26: the length and the three checksums, each evaluated over the whole list. -/
theorem tableChecksums : Obligations.TableChecksums :=
  ⟨constantTable_length, constantTable_xor_high, constantTable_xor_low, constantTable_sum⟩

end Sys2Proof.Machine
end

section
/-! The encoding (30_encoding): the decoder against the opcode map and the encoder (R85, R87), illegal words (R89), and the
execution gate while a fault stands (R86, R221). -/

namespace Sys2Proof.Machine

/-! ### The decoder, the opcode map and the encoder -/

/-- The decoder answers the instruction of a row exactly on the word of that row (R86 step 1): no two rows share a word. -/
theorem decode_eq_ok_iff_mem_opcodeMap (w : Word) (i : Instr) : decode w = .ok i ↔ (w, i) ∈ opcodeMap := by
  constructor
  · intro h
    cases hrow : opcodeMap.find? (fun row => row.1 == w) with
    | none => simp [decode, hrow] at h
    | some row =>
      obtain rfl : row.2 = i := by simpa [decode, hrow] using h
      obtain rfl : row.1 = w := by simpa using List.find?_some hrow
      exact List.mem_of_find?_eq_some hrow
  · have hrows : ∀ row ∈ opcodeMap, decode row.1 = .ok row.2 := by decide
    exact hrows (w, i)

/-- Settles O2: the statement's list is the model's opcode map. -/
theorem opcodeMapIsExact : Obligations.OpcodeMapIsExact := decode_eq_ok_iff_mem_opcodeMap

/-- The word of every row is the encoding of its instruction (R85, R87). -/
theorem eq_encode_of_mem_opcodeMap {w : Word} {i : Instr} (h : (w, i) ∈ opcodeMap) : w = encode i := by
  have hrows : ∀ row ∈ opcodeMap, row.1 = encode row.2 := by decide
  exact hrows (w, i) h

/-- The encoding of an instruction is legal and decodes to it (R87, R90). -/
theorem encoding_statement (i : Instr) : Laws.Encoding.Statement i := by
  cases i with
  | nop => exact Laws.Encoding.nop
  | errclr => exact Laws.Encoding.errclr
  | srst => exact Laws.Encoding.srst
  | decompD => exact Laws.Encoding.decompD
  | decompS => exact Laws.Encoding.decompS
  | kest => exact Laws.Encoding.kest
  | gld => exact Laws.Encoding.gld
  | mulr => exact Laws.Encoding.mulr
  | bsel => exact Laws.Encoding.bsel
  | shortest => exact Laws.Encoding.shortest
  | dnorm => exact Laws.Encoding.dnorm
  | digits => exact Laws.Encoding.digits
  | pcalc => exact Laws.Encoding.pcalc
  | rndp => exact Laws.Encoding.rndp

/-- Settles O3: a word that decodes is the word of a row, so an encoding, and every encoding decodes. -/
theorem decodeInvertsEncode : Obligations.DecodeInvertsEncode := by
  intro w i
  constructor
  · intro h
    exact eq_encode_of_mem_opcodeMap ((decode_eq_ok_iff_mem_opcodeMap w i).mp h)
  · rintro rfl
    exact (encoding_statement i).2

/-- Settles O1: the four words are encodings, and the fifth has one of the thirteen opcodes but not 0x10. -/
theorem sampleWordsDecode : Obligations.SampleWordsDecode :=
  ⟨(encoding_statement .nop).2, (encoding_statement .decompS).2, (encoding_statement .shortest).2,
    (encoding_statement .rndp).2, by decide⟩

/-! ### Illegal words -/

/-- The decoder rejects exactly the words that are not legal (R89). -/
theorem decode_error_iff (w : Word) : (∃ r, decode w = .error r) ↔ legalWord w = false := by
  constructor
  · rintro ⟨r, hr⟩
    by_contra hlegal
    obtain ⟨i, hi⟩ := decode_of_legalWord (Bool.eq_true_of_not_eq_false hlegal)
    cases hi.symm.trans hr
  · intro hlegal
    cases hd : decode w with
    | error r => exact ⟨r, rfl⟩
    | ok i =>
      obtain rfl := (decodeInvertsEncode w i).mp hd
      cases (encoding_statement i).1.symm.trans hlegal

/-- Bits 63:9 in numbers. -/
theorem zeroFieldsOk_iff (w : Word) : zeroFieldsOk w = true ↔ w.toNat / 2 ^ 9 = 0 := by
  have hfield : (w.extractLsb' 9 55).toNat = w.toNat / 2 ^ 9 % 2 ^ 55 := toNat_getField w 9 55
  have hlt := w.isLt
  rw [zeroFieldsOk, beq_iff_eq, ← BitVec.toNat_inj, hfield, Nat.mod_eq_of_lt (by omega)]
  rfl

/-- OP in numbers. -/
theorem toNat_opField (w : Word) : (opField w).toNat = w.toNat % 256 := by simp [opField]

/-- The opcodes in numbers. -/
theorem opcodeOk_iff (w : Word) : opcodeOk w = true ↔ w.toNat % 256 ∈ opcodes.map BitVec.toNat := by
  rw [← toNat_opField, List.mem_map_of_injective fun _ _ => BitVec.eq_of_toNat_eq]
  exact List.contains_iff_mem

/-- The format bit in numbers (R88). -/
theorem formatBitOk_iff (w : Word) :
    formatBitOk w = true ↔ ¬(w.toNat / 256 % 2 = 1 ∧ w.toNat % 256 ≠ 0x10) := by
  have hfm : fmField w = true ↔ w.toNat / 256 % 2 = 1 := getLsbD_eq_true_iff w 8
  have hop : opField w = 0x10 ↔ w.toNat % 256 = 0x10 := by
    rw [← toNat_opField, ← BitVec.toNat_inj]
    rfl
  rw [← hfm, Ne, ← hop, formatBitOk, Bool.or_eq_true, Bool.not_eq_true', beq_iff_eq]
  cases fmField w <;> simp

/-- R89's three conditions in numbers. -/
theorem legalWord_eq_false_iff (w : Word) :
    legalWord w = false ↔ w.toNat / 2 ^ 9 ≠ 0 ∨ w.toNat % 256 ∉ opcodes.map BitVec.toNat ∨
      (w.toNat / 256 % 2 = 1 ∧ w.toNat % 256 ≠ 0x10) := by
  rw [← Bool.not_eq_true, legalWord, Bool.and_eq_true, Bool.and_eq_true, zeroFieldsOk_iff, opcodeOk_iff, formatBitOk_iff]
  tauto

/-- A fault entry writes ERR, CAUSE and EINFO and nothing else (R214). -/
theorem faultEntered_raise (s : State) (x : Cause) (w : Word) : FaultEntered s (s.raise x w) (causeCode x) w :=
  ⟨rfl, statusErr_statusFaulted _ _, statusCause_statusFaulted _ _, statusFaulted_reserved _ _⟩

/-- Settles O4: the statement's list is `opcodes` in numbers, and the step answers a rejected word by the gate or by ILLCMD. -/
theorem illegalWordsFault : Obligations.IllegalWordsFault := by
  intro s w rest hp s0 illegal
  have hillegal : (∃ r, decode w = .error r) ↔ illegal := (decode_error_iff w).trans (legalWord_eq_false_iff w)
  have hstep (h : illegal) : step s = .next (s0.illegalCommand w) := by
    obtain ⟨r, hr⟩ := hillegal.mpr h
    obtain ⟨i, hi, -⟩ | ⟨-, -, hrun⟩ := runCommand_cases w s0
    · cases hi.symm.trans hr
    · exact (step_of_pending hp).trans hrun
  refine ⟨hillegal, fun h herr => ⟨_, hstep h, ?_⟩, fun h herr => (hstep h).trans ?_⟩
  · obtain ⟨hfault, -⟩ | ⟨-, hc⟩ := illegalCommand_cases s0 w
    · cases hfault.symm.trans herr
    · rw [hc]
      exact faultEntered_raise s0 .illcmd w
  · obtain ⟨-, hc⟩ | ⟨hnone, -⟩ := illegalCommand_cases s0 w
    · rw [hc]
    · cases hnone.symm.trans herr

/-! ### The gate while a fault stands -/

/-- Settles O17: every command but the two is its body under the gate. -/
theorem faultGatesCommands : Obligations.FaultGatesCommands := by
  intro i s herr hclr hrst
  obtain ⟨rfl, -⟩ | ⟨rfl, -⟩ | ⟨-, -, he⟩ := exec_cases i s
  · exact absurd rfl hclr
  · exact absurd rfl hrst
  · rw [he, command_of_fault herr]

/-- Going from `s` to `t` keeps STATUS and EINFO. -/
abbrev FaultKept (s t : State) : Prop := t.status = s.status ∧ t.einfo = s.einfo

/-- No fault stands and none is recorded. -/
abbrev FaultCleared (t : State) : Prop := t.status = 0 ∧ t.einfo = 0

/-- A command while a fault stands is ignored, or is ERRCLR or SRST and clears the fault. -/
theorem exec_of_fault {i : Instr} {s t : State} (herr : statusErr s.status = true) (h : exec i s = .next t) :
    t = s ∨ (FaultCleared t ∧ (i = .errclr ∨ i = .srst)) := by
  obtain ⟨rfl, he⟩ | ⟨rfl, he⟩ | ⟨-, -, he⟩ := exec_cases i s <;> obtain rfl := Host.Outcome.next.inj (he.symm.trans h)
  · exact .inr ⟨⟨rfl, rfl⟩, .inl rfl⟩
  · exact .inr ⟨⟨rfl, rfl⟩, .inr rfl⟩
  · exact .inl (command_of_fault herr)

/-- A word written to CMD while a fault stands is ignored, or is ERRCLR's or SRST's and clears the fault. -/
theorem runCommand_of_fault {w : Word} {s t : State} (herr : statusErr s.status = true) (h : runCommand w s = .next t) :
    t = s ∨ (FaultCleared t ∧ (w = 0x01 ∨ w = 0x02)) := by
  obtain ⟨i, hd, hr⟩ | ⟨_, -, hr⟩ := runCommand_cases w s
  · obtain rfl := (decodeInvertsEncode w i).mp hd
    exact (exec_of_fault herr (hr.symm.trans h)).imp_right (.imp_right (.imp (congrArg encode) (congrArg encode)))
  · obtain rfl := Host.Outcome.next.inj (hr.symm.trans h)
    obtain ⟨-, hc⟩ | ⟨hnone, -⟩ := illegalCommand_cases s w
    · exact .inl hc
    · cases hnone.symm.trans herr

/-- A host write while a fault stands keeps it, or is ERRCLR's or SRST's word at CMD and clears it. -/
theorem serve_write_of_fault {i : Fin 32} {v : Word} {s t : State} (herr : statusErr s.status = true)
    (h : serve (.write i v) s = .next t) : FaultKept s t ∨ (FaultCleared t ∧ i = cmdIndex ∧ (v = 0x01 ∨ v = 0x02)) := by
  obtain ⟨hi, hw⟩ | ⟨-, r, -, hw⟩ | ⟨-, -, hw⟩ := serve_write_cases i v s
  · obtain rfl | ⟨hcleared, hv⟩ := runCommand_of_fault herr (hw.symm.trans h)
    · exact .inl ⟨rfl, rfl⟩
    · exact .inr ⟨hcleared, hi, hv⟩
  · obtain rfl := Host.Outcome.next.inj (hw.symm.trans h)
    exact .inl ⟨(store_controlKept s r v).status, (store_controlKept s r v).einfo⟩
  · obtain rfl := Host.Outcome.next.inj (hw.symm.trans h)
    exact .inl ⟨rfl, rfl⟩

/-- A host action while a fault stands keeps it, or is the reset or writes ERRCLR or SRST to CMD and clears it. -/
theorem serve_of_fault {a : HostAction} {s t : State} (herr : statusErr s.status = true) (h : serve a s = .next t) :
    FaultKept s t ∨
      (FaultCleared t ∧ (a = .reset ∨ writesCommand a 0x01 = true ∨ writesCommand a 0x02 = true)) := by
  cases a with
  | read i => obtain rfl := Host.Outcome.next.inj h; exact .inl ⟨rfl, rfl⟩
  | write i v =>
    refine (serve_write_of_fault herr h).imp_right fun ⟨hcleared, hi, hv⟩ => ⟨hcleared, .inr ?_⟩
    simpa [writesCommand, hi] using hv
  | reset => obtain rfl := Host.Outcome.next.inj h; exact .inr ⟨⟨rfl, rfl⟩, .inl rfl⟩
  | busRead offset width =>
    obtain ⟨i, -, hb⟩ | ⟨-, hb⟩ := serve_busRead_cases offset width s
    · obtain rfl := Host.Outcome.next.inj (hb.symm.trans h); exact .inl ⟨rfl, rfl⟩
    · cases hb.symm.trans h
  | busWrite offset bytes =>
    obtain ⟨i, hindex, hb⟩ | ⟨-, hb⟩ := serve_busWrite_cases offset bytes s
    · refine (serve_write_of_fault herr (hb.symm.trans h)).imp_right fun ⟨hcleared, hi, hv⟩ => ⟨hcleared, .inr ?_⟩
      simpa [writesCommand, hindex, hi] using hv
    · cases hb.symm.trans h

/-- Settles O18: the step serves the first pending action on the state whose port has lost it. -/
theorem faultIsKeptUntilCleared : Obligations.FaultIsKeptUntilCleared := by
  intro s t herr h
  obtain ⟨-, hstep⟩ | ⟨a, rest, hp, hstep⟩ := step_cases s
  · obtain rfl := Host.Outcome.next.inj (hstep.symm.trans h)
    exact .inl ⟨rfl, rfl⟩
  · refine (serve_of_fault (s := { s with pending := rest }) herr (hstep.symm.trans h)).imp_right ?_
    rintro ⟨⟨hstatus, heinfo⟩, ha⟩
    exact ⟨hstatus, heinfo, a, rest, hp, ha⟩

end Sys2Proof.Machine
end

section
/-! The decomposer (40_decomposer R101 to R110): what DECOMP.D and DECOMP.S write, case by case and in numbers. -/

namespace Sys2Proof.Machine

/-! ### The flags in numbers -/

/-- Writing the low `n` bits of a word, in numbers. -/
theorem toNat_putField_zero (w : Word) {n : ℕ} (x : BitVec n) (hn : n ≤ 64) :
    (putField w 0 x).toNat = w.toNat / 2 ^ n * 2 ^ n + x.toNat := by
  refine Nat.eq_of_testBit_eq fun i => ?_
  rw [Nat.mul_comm, Nat.testBit_two_pow_mul_add _ x.isLt, BitVec.testBit_toNat, getLsbD_putField _ _ _ _ (by omega)]
  by_cases hi : i < n
  · rw [if_pos (by omega), if_pos hi, Nat.sub_zero, BitVec.testBit_toNat]
  · rw [if_neg (by omega), if_neg hi, Nat.testBit_div_two_pow, Nat.sub_add_cancel (by omega), BitVec.testBit_toNat]

/-- FLAGS after DECOMP in numbers: the fields of R108 in the low 16 bits, the rest as it was. -/
theorem toNat_decompFlags (flags : Word) (dkf int fmt : Bool) (cls : BitVec 3) (sign : Bool) :
    (decompFlags flags dkf int fmt cls sign).toNat =
      flags.toNat / 2 ^ 16 * 2 ^ 16 +
        (sign.toNat + 2 * cls.toNat + 16 * fmt.toNat + 32 * int.toNat + 64 * dkf.toNat) := by
  have hbit (b : Bool) : (BitVec.ofBool b).toNat = b.toNat := by cases b <;> rfl
  have happend {m : ℕ} (x : BitVec m) (k : ℕ) (y : BitVec k) : (x ++ y).toNat = x.toNat * 2 ^ k + y.toNat := by
    rw [BitVec.toNat_append, Nat.shiftLeft_eq, Nat.mul_comm, Nat.two_pow_add_eq_or_of_lt y.isLt]
  rw [decompFlags, toNat_putField_zero _ _ (by decide)]
  simp only [happend, hbit, BitVec.ofNat_eq_ofNat, BitVec.toNat_zero]
  omega

/-! ### The fields of a pattern in numbers -/

theorem toNat_signOf (F : Format) (v : Word) : (signOf F v).toNat = v.toNat / 2 ^ (F.precision + F.expWidth - 1) % 2 :=
  Nat.toNat_testBit _ _

theorem biasedExponentOf_eq (F : Format) (v : Word) :
    biasedExponentOf F v = v.toNat / 2 ^ (F.precision - 1) % 2 ^ F.expWidth := toNat_getField _ _ _

theorem fractionOf_eq (F : Format) (v : Word) : fractionOf F v = v.toNat % 2 ^ (F.precision - 1) := by
  rw [fractionOf, toNat_getField, Nat.pow_zero, Nat.div_one]

/-! ### The four cases of the rule -/

/-- The four cases of R109 and R110: infinity and NaN, normal, subnormal, zero. -/
def Decomposition.FollowsRule (F : Format) (bq t : ℕ) (d : Decomposition) : Prop :=
  (bq = bqMax F →
    d.cls.toNat = (if t = 0 then 3 else 4) ∧ d.c = t ∧ d.q = 0 ∧ d.int.toNat = 0 ∧ d.dkf.toNat = 0) ∧
  (bq ≠ bqMax F → bq ≠ 0 →
    d.cls.toNat = 2 ∧ d.c = 2 ^ (F.precision - 1) + t ∧ d.q = bq - (1 - qMin F) ∧ d.dkf.toNat = 0 ∧
      d.int.toNat = (if 0 < -d.q ∧ -d.q < F.precision ∧ d.c % 2 ^ (-d.q).toNat = 0 then 1 else 0)) ∧
  (bq = 0 → t ≠ 0 →
    d.cls.toNat = 1 ∧ d.q = qMin F ∧ d.int.toNat = 0 ∧
      d.c = (if t < F.tiny then 10 * t else t) ∧ d.dkf.toNat = (if t < F.tiny then 1 else 0)) ∧
  (bq = 0 → t = 0 → d.cls.toNat = 0 ∧ d.c = 0 ∧ d.q = 0 ∧ d.int.toNat = 0 ∧ d.dkf.toNat = 0)

/-- The fast-path test as a digit (R107). -/
theorem toNat_isFastInteger (F : Format) (c : ℕ) (q : ℤ) :
    (isFastInteger F c q).toNat = if 0 < -q ∧ -q < F.precision ∧ c % 2 ^ (-q).toNat = 0 then 1 else 0 := by
  have htest : isFastInteger F c q = decide (0 < -q ∧ -q < F.precision ∧ c % 2 ^ (-q).toNat = 0) := by
    simp [isFastInteger, Bool.decide_and, Bool.and_assoc, beq_eq_decide]
  rw [htest, Bool.toNat, Bool.cond_decide]

/-- The decomposition of every pattern follows the rule. -/
theorem decompose_followsRule (fmt : Bool) (bq t : ℕ) :
    (decompose (formatOf fmt) bq t).FollowsRule (formatOf fmt) bq t := by
  have hmax := zero_ne_bqMax fmt
  refine ⟨fun hs => ?_, fun hs h0 => ?_, fun h0 ht => ?_, fun h0 ht => ?_⟩
  · rw [decompose_special hs]
    refine ⟨?_, rfl, rfl, rfl, rfl⟩
    by_cases ht : t = 0 <;> simp [ht, classNaN, classInfinite]
  · rw [decompose_normal hs h0]
    refine ⟨rfl, rfl, ?_, rfl, toNat_isFastInteger _ _ _⟩
    simp only [qMin]
    omega
  · subst h0
    by_cases htiny : t < (formatOf fmt).tiny
    · rw [decompose_tiny hmax ht htiny, if_pos htiny, if_pos htiny]
      exact ⟨rfl, rfl, rfl, rfl, rfl⟩
    · rw [decompose_subnormal hmax ht htiny, if_neg htiny, if_neg htiny]
      exact ⟨rfl, rfl, rfl, rfl, rfl⟩
  · subst h0 ht
    rw [decompose_zero hmax]
    exact ⟨rfl, rfl, rfl, rfl, rfl⟩

/-- Every decomposition fits C and Q: the finite non-zero ones by R112, and the others have Q = 0 and at most the fraction in C. -/
theorem decompose_fits (fmt : Bool) {bq t : ℕ} (hb : bq < 2 ^ (formatOf fmt).expWidth)
    (ht : t < 2 ^ ((formatOf fmt).precision - 1)) :
    (decompose (formatOf fmt) bq t).c < 2 ^ 64 ∧ -2 ^ 63 ≤ (decompose (formatOf fmt) bq t).q ∧
      (decompose (formatOf fmt) bq t).q < 2 ^ 63 := by
  have hexact := decompose_exact fmt hb ht
  have hrule := decompose_followsRule fmt bq t
  generalize decompose (formatOf fmt) bq t = d at hexact hrule ⊢
  obtain ⟨-, hok, -⟩ | ⟨hcls, hq, -⟩ := hexact
  · have hrange := range_of_operandOK hok
    omega
  · obtain ⟨hspecial, hnormal, hsubnormal, hzero⟩ := hrule
    have hc : d.c ≤ t := by
      by_cases hs : bq = bqMax (formatOf fmt)
      · exact (hspecial hs).2.1.le
      by_cases h0 : bq = 0
      · by_cases ht0 : t = 0
        · exact (hzero h0 ht0).2.1.trans_le (Nat.zero_le t)
        · exact absurd (.inl (hsubnormal h0 ht0).1) hcls
      · exact absurd (.inr (hnormal hs h0).1) hcls
    have hfraction : t < 2 ^ 52 := ht.trans_le (by cases fmt <;> decide)
    omega

/-! ### The two commands -/

/-- DECOMP of either format with no fault standing: it writes FLAGS, C and Q, and they hold the decomposition of the pattern's
fields by the rule. -/
theorem exec_decomp_splits (fmt : Bool) {s : State} (he : statusErr s.status = false) :
    let F := formatOf fmt
    ∃ (u : State) (d : Decomposition), exec (if fmt then .decompS else .decompD) s = .next u ∧
      u = { s with flags := u.flags, c := u.c, q := u.q } ∧
      u.flags.toNat = s.flags.toNat / 2 ^ 16 * 2 ^ 16 +
        (s.bits.toNat / 2 ^ (F.precision + F.expWidth - 1) % 2 + 2 * d.cls.toNat + 16 * fmt.toNat + 32 * d.int.toNat +
          64 * d.dkf.toNat) ∧
      u.c.toNat = d.c ∧ u.q.toInt = d.q ∧
      d.FollowsRule F (s.bits.toNat / 2 ^ (F.precision - 1) % 2 ^ F.expWidth) (s.bits.toNat % 2 ^ (F.precision - 1)) := by
  intro F
  obtain ⟨hc, hqlow, hqhigh⟩ := decompose_fits fmt (biasedExponentOf_lt F s.bits) (fractionOf_lt F s.bits)
  rw [← toNat_signOf, ← biasedExponentOf_eq, ← fractionOf_eq]
  exact ⟨decompWrites fmt s, _, exec_decomp he fmt, rfl, toNat_decompFlags _ _ _ _ _ _, toNat_word _ hc,
    s64_u64 _ hqlow hqhigh, decompose_followsRule fmt _ _⟩

/-- Settles O19: the binary64 case, where the sign is the top bit of BITS. -/
theorem decompDSplitsBinary64 : Obligations.DecompDSplitsBinary64 := by
  refine ⟨(encoding_statement .decompD).2, fun s he => ?_⟩
  obtain ⟨u, d, hexec, hframe, hflags, hc, hq, hrule⟩ := exec_decomp_splits false he
  have hsign : s.bits.toNat / 2 ^ 63 % 2 = s.bits.toNat / 2 ^ 63 := by
    have := s.bits.isLt
    omega
  refine ⟨u, d.cls.toNat, d.c, d.int.toNat, d.dkf.toNat, d.q, hexec, hframe, ?_, hc, hq, hrule⟩
  rw [← hsign]
  exact hflags

/-- Settles O20: the binary32 case, whose fields stand in BITS[31:0]. -/
theorem decompSSplitsBinary32 : Obligations.DecompSSplitsBinary32 := by
  refine ⟨(encoding_statement .decompS).2, fun s he => ?_⟩
  obtain ⟨u, d, hexec, hframe, hflags, hc, hq, hrule⟩ := exec_decomp_splits true he
  exact ⟨u, d.cls.toNat, d.c, d.int.toNat, d.dkf.toNat, d.q, hexec, hframe, hflags, hc, hq, hrule⟩

end Sys2Proof.Machine
end

section
/-! The fast path of SHORTEST (40_decomposer R107, 41_boundary R134): an integer below 2^P, stripped of its trailing zeros. -/

namespace Sys2Proof.Machine

/-- Stripping f > 0 of its trailing zeros keeps its value and leaves a canonical significand with its digit count (R151). -/
theorem canonical_strip {f : ℕ} (h0 : 0 < f) :
    f / 10 ^ tz10 f * 10 ^ tz10 f = f ∧ Canonical (f / 10 ^ tz10 f) (len10 (f / 10 ^ tz10 f)) := by
  obtain ⟨hdvd, hlast⟩ := tz10_spec f h0
  have hpos := Nat.div_pos (Nat.le_of_dvd h0 hdvd) (Nat.pow_pos (by decide))
  exact ⟨Nat.div_mul_cancel hdvd, hlast, (eq_len10_iff _ _ hpos.ne').mp rfl⟩

/-- A value that fits a register has fewer than 20 trailing zeros. -/
theorem tz10_lt_twenty {f : ℕ} (h0 : 0 < f) (hf : f < 2 ^ 64) : tz10 f < 20 := by
  have hle : 10 ^ tz10 f < 10 ^ 20 := (Nat.le_of_dvd h0 (tz10_spec f h0).1).trans_lt (hf.trans (by decide))
  exact (Nat.pow_lt_pow_iff_right (by decide)).mp hle

/-- P by FLAGS.FMT (R5, R6). -/
theorem precision_formatOf (fmt : Bool) : (formatOf fmt).precision = if fmt = true then 24 else 53 := by
  cases fmt <;> rfl

/-- SHORTEST on a fast-path integer completes with the integer's record (R134). -/
theorem exec_shortest_of_fastPathOK {s : State} (he : statusErr s.status = false) (hi : flagInt s.flags = true)
    (hfast : fastPathOK s) :
    exec .shortest s = .next (dnormRecord (s.c.toNat / 2 ^ (-s.q.toInt).toNat) 0 s) := by
  have hcls := hfast.1
  refine congrArg Host.Outcome.next (command_of_ok he ?_)
  obtain ⟨h, -⟩ | ⟨h, -⟩ | ⟨-, -, -, hb⟩ | ⟨-, -, h, -⟩ | ⟨-, h, -⟩ | ⟨-, h, -⟩ := shortestBody_cases s
  · omega
  · omega
  · exact hb
  · exact absurd hfast h
  · cases h.symm.trans hi
  · cases h.symm.trans hi

/-- Settles O36: C div 2^(-Q) is positive and below 2^53, and DNORM's record of it is canonical. -/
theorem shortestFastPath : Obligations.ShortestFastPath := by
  intro s he hi p hcls hdkf hmin hmax hneg hlt hmod
  have hp : (formatOf (flagFmt s.flags)).precision = p := by
    rw [precision_formatOf]
    rfl
  have hp53 : p ≤ 53 := by simp only [p]; split <;> decide
  have hfast : fastPathOK s := by
    unfold fastPathOK cMin cMax
    rw [hp]
    exact ⟨hcls, hdkf, hmin, hmax, hneg, hlt, hmod⟩
  have hexec := exec_shortest_of_fastPathOK he hi hfast
  have hpow : 2 ^ (-s.q.toInt).toNat ≤ s.c.toNat := (Nat.pow_le_pow_right (by decide) (by omega)).trans hmin
  have hf0 : 0 < s.c.toNat / 2 ^ (-s.q.toInt).toNat := Nat.div_pos hpow (by positivity)
  have hf53 : s.c.toNat / 2 ^ (-s.q.toInt).toNat < 2 ^ 53 := by
    have hp2 : 2 ^ p ≤ 2 ^ 53 := Nat.pow_le_pow_right (by decide) hp53
    exact (Nat.div_le_self _ _).trans_lt (by omega)
  have hvalue := Nat.div_mul_cancel (Nat.dvd_of_mod_eq_zero hmod)
  generalize s.c.toNat / 2 ^ (-s.q.toInt).toNat = f at hf0 hf53 hvalue hexec
  obtain ⟨hstrip, hcanonical⟩ := canonical_strip hf0
  have hlow : f / 10 ^ tz10 f ≤ f := Nat.div_le_self _ _
  have hn : len10 (f / 10 ^ tz10 f) ≤ 19 := (len10_le_iff _ _).mpr (by omega)
  have hrecord := ((dnormRecord_cases f 0 s).resolve_left fun h => hf0.ne' h.1).2
  rw [hrecord, zero_add] at hexec
  exact ⟨_, _, tz10 f, hexec, by rw [hstrip, hvalue], by omega, tz10_lt_twenty hf0 (by omega), by omega, hcanonical⟩

end Sys2Proof.Machine
end

section
/-! The boundary unit (41_boundary R124 to R135): where KEST, GLD, MULR and SHORTEST fault, and the general path of SHORTEST against
the five step commands. -/

namespace Sys2Proof.Machine

section
variable {i : Instr} {s t : State}

/-! ### A command by its body -/

/-- With no fault standing, a command whose body completes leaves the state its body gives. -/
theorem exec_of_commandBody_ok (he : statusErr s.status = false) (hb : commandBody i s = .ok t) : exec i s = .next t := by
  obtain ⟨rfl, h⟩ | ⟨rfl, h⟩ | ⟨-, -, h⟩ := exec_cases i s
  · rw [h, Except.ok.inj hb]
  · rw [h, Except.ok.inj hb]
  · rw [h, command_of_ok he hb]

/-- With no fault standing, a command whose body gives a cause takes that fault with its own word. -/
theorem exec_of_commandBody_error {x : Cause} (he : statusErr s.status = false) (hb : commandBody i s = .error x) :
    exec i s = .next (s.raise x (encode i)) := by
  obtain ⟨rfl, -⟩ | ⟨rfl, -⟩ | ⟨-, -, h⟩ := exec_cases i s
  · cases hb
  · cases hb
  · rw [h, command_of_error he hb]

/-- The fault entry of R214 after a body that gives a cause. -/
theorem exec_faultEntered {x : Cause} (he : statusErr s.status = false) (hb : commandBody i s = .error x) :
    ∃ t, exec i s = .next t ∧ FaultEntered s t (causeCode x) (encode i) :=
  ⟨_, exec_of_commandBody_error he hb, faultEntered_raise s x _⟩

end

/-! ### KEST, GLD and MULR -/

/-- Settles O28: the two faults of KEST's body, the class before the operands. -/
theorem kestFaults : Obligations.KestFaults := by
  intro s he
  refine ⟨fun h1 h2 => ?_, fun hc ho => ?_⟩
  · exact exec_faultEntered (i := .kest) he ((kestBody_error_iff s .badclass).mpr (.inl ⟨by simp [h1, h2], rfl⟩))
  · exact exec_faultEntered (i := .kest) he ((kestBody_error_iff s .oprange).mpr (.inr ⟨hc, ho, rfl⟩))

/-- Settles O30: inside the table GLD loads the entry of K, and outside it faults. -/
theorem gldLoadsTableEntry : Obligations.GldLoadsTableEntry := by
  refine ⟨rfl, fun s he => ⟨fun hmin hmax => ?_, fun hout => ?_⟩⟩
  · obtain ⟨a1, a0, hread, hb⟩ := gldBody_ok s hmin hmax
    exact ⟨a1, a0, hread, exec_of_commandBody_ok (i := .gld) he hb⟩
  · obtain ⟨_, _, hmin, hmax, -, -⟩ | ⟨-, hb⟩ := gldBody_cases s
    · exact absurd hout (not_or.mpr ⟨not_lt.mpr hmin, not_lt.mpr hmax⟩)
    · exact exec_faultEntered (i := .gld) he hb

/-- Settles O33: MULR faults exactly outside the range of R128, and completes with STATUS and EINFO kept. -/
theorem mulrFaultsOutsideRange : Obligations.MulrFaultsOutsideRange := by
  intro s he outside
  obtain ⟨hout, hb⟩ | ⟨hin, hb⟩ := mulrBody_cases s
  · exact ⟨fun _ => exec_faultEntered (i := .mulr) he hb, fun h => absurd hout h⟩
  · exact ⟨fun h => absurd h hin, fun _ => ⟨_, exec_of_commandBody_ok (i := .mulr) he hb, rfl, rfl⟩⟩

/-! ### SHORTEST -/

section
variable {s : State}

/-- SHORTEST rejects the classes 3 to 7. -/
theorem shortestBody_of_reserved (h : 3 ≤ flagClass s.flags) : shortestBody s = .error .badclass :=
  if_pos h

/-- SHORTEST on class Zero gives the zero record. -/
theorem shortestBody_of_zero (h : flagClass s.flags = 0) : shortestBody s = .ok (s.setRecord 0 0 0) := by
  obtain ⟨h3, -⟩ | ⟨-, hb⟩ | ⟨hc, -⟩ | ⟨hc, -⟩ | ⟨hc, -⟩ | ⟨hc, -⟩ := shortestBody_cases s
  case inr.inl => exact hb
  all_goals omega

/-- SHORTEST on class 1 or 2 with INT = 1 takes the fast path or faults. -/
theorem shortestBody_of_int (hc : flagClass s.flags = 1 ∨ flagClass s.flags = 2) (hint : flagInt s.flags = true) :
    (fastPathOK s ∧ shortestBody s = .ok (dnormRecord (s.c.toNat / 2 ^ (-s64 s.q).toNat) 0 s)) ∨
    (¬fastPathOK s ∧ shortestBody s = .error .oprange) := by
  obtain ⟨h, -⟩ | ⟨h, -⟩ | ⟨-, -, h⟩ | ⟨-, -, h⟩ | ⟨-, h, -⟩ | ⟨-, h, -⟩ := shortestBody_cases s
  · omega
  · omega
  · exact .inl h
  · exact .inr h
  · cases h.symm.trans hint
  · cases h.symm.trans hint

/-- SHORTEST on class 1 or 2 with INT = 0 takes the general path or faults. -/
theorem shortestBody_of_not_int (hc : flagClass s.flags = 1 ∨ flagClass s.flags = 2) (hint : flagInt s.flags = false) :
    (operandsOK s ∧ shortestBody s = generalPath s) ∨ (¬operandsOK s ∧ shortestBody s = .error .oprange) := by
  obtain ⟨h, -⟩ | ⟨h, -⟩ | ⟨-, h, -⟩ | ⟨-, h, -⟩ | ⟨-, -, h⟩ | ⟨-, -, h⟩ := shortestBody_cases s
  · omega
  · omega
  · cases h.symm.trans hint
  · cases h.symm.trans hint
  · exact .inr h
  · exact .inl h

end

/-- Settles O35: class Zero is answered before anything else is read. -/
theorem shortestOnZero : Obligations.ShortestOnZero :=
  fun _ he hcls => exec_of_commandBody_ok (i := .shortest) he (shortestBody_of_zero hcls)

/-- The check of the fast path in numbers (R134): P is 53 or 24 by FLAGS.FMT, C_MIN = 2^(P-1) and C_MAX = 2^P - 1. -/
theorem fastPathOK_iff (s : State) :
    let p : ℕ := if s.flags.getLsbD 4 = true then 24 else 53
    fastPathOK s ↔ flagClass s.flags = 2 ∧ flagDkf s.flags = false ∧ 2 ^ (p - 1) ≤ s.c.toNat ∧ s.c.toNat ≤ 2 ^ p - 1 ∧
      0 < -s.q.toInt ∧ -s.q.toInt < p ∧ s.c.toNat % 2 ^ (-s.q.toInt).toNat = 0 := by
  unfold fastPathOK cMin cMax
  rw [precision_formatOf]
  exact Iff.rfl

/-- Settles O38: the three faults of SHORTEST's body, the class before the operands. -/
theorem shortestFaults : Obligations.ShortestFaults := by
  intro s he p fast
  have hfast : fastPathOK s ↔ fast := fastPathOK_iff s
  refine ⟨fun hcls => ?_, fun hcls hint hfail => ?_, fun hcls hint hfail => ?_⟩
  · exact exec_faultEntered (i := .shortest) he (shortestBody_of_reserved hcls)
  · have hb := (shortestBody_of_int hcls hint).resolve_left fun h => hfail (hfast.mp h.1)
    exact exec_faultEntered (i := .shortest) he hb.2
  · have hb := (shortestBody_of_not_int hcls hint).resolve_left fun h => hfail h.1
    exact exec_faultEntered (i := .shortest) he hb.2

/-! ### The general path of SHORTEST -/

/-- Both words of a table entry have 63 bits (R81). -/
theorem romRead_lt {j : ℕ} {a1 a0 : Word} (h : romRead j = some (a1, a0)) : a1.toNat < 2 ^ 63 ∧ a0.toNat < 2 ^ 63 := by
  have hexact := entryExact_of_romRead h
  simp only [entryExact, Bool.and_eq_true, decide_eq_true_eq] at hexact
  exact ⟨hexact.1.2, hexact.2⟩

/-- Admissible operands have a significand that is not 0 (R123). -/
theorem pos_of_operandOK {c : ℕ} {q : ℤ} {dkf fmt : Bool} (h : OperandOK c q dkf fmt) : 0 < c := by
  cases fmt with
  | false => rw [operandOK_binary64_iff] at h; omega
  | true => rw [operandOK_binary32_iff] at h; omega

section
variable {s : State} (hc : flagClass s.flags = 1 ∨ flagClass s.flags = 2) (ho : operandsOK s)
include hc ho

/-- After KEST on admissible operands and GLD, the operands of MULR are in range (R125, R128). -/
theorem not_mulrOutOfRange_of_kestBody_gldBody {s1 s2 : State} (he : statusErr s.status = false) (h1 : kestBody s = .ok s1)
    (h2 : gldBody s1 = .ok s2) : ¬mulrOutOfRange s2 := by
  obtain ⟨-, -, hh, hh', hprod, -⟩ := kestRangesAreSafe s s1 he hc ho (exec_of_commandBody_ok (i := .kest) he h1)
  obtain ⟨-, -, hs1⟩ := (kestBody_ok_iff s s1).mp h1
  have hc1 : s1.c = s.c := by rw [hs1]; rfl
  obtain ⟨a1, a0, -, -, hread, hb⟩ | ⟨-, hb⟩ := gldBody_cases s1 <;> cases hb.symm.trans h2
  obtain ⟨hg1, hg0⟩ := romRead_lt hread
  have hpos := pos_of_operandOK ho
  rintro (h | h | h | h | h | h)
  · rw [← hc1, show s1.c = 0 from h] at hpos
    exact absurd hpos (by decide)
  · exact absurd (hh.trans_lt h) (by decide)
  · exact absurd (h.trans_le hh') (by decide)
  · exact absurd (h.trans_lt hprod) (by decide)
  · exact absurd hg1 (not_lt.mpr h)
  · exact absurd hg0 (not_lt.mpr h)

/-- On admissible operands none of the five steps faults (R125). -/
theorem generalPath_steps (he : statusErr s.status = false) :
    ∃ s1 s2 s3 s4 s5, kestBody s = .ok s1 ∧ gldBody s1 = .ok s2 ∧ mulrBody s2 = .ok s3 ∧ bselBody s3 = .ok s4 ∧
      dnormBody s4 = .ok s5 := by
  have h1 := (kestBody_ok_iff s _).mpr ⟨hc, ho, rfl⟩
  obtain ⟨s2, h2⟩ := gldBody_of_kestBody h1
  have h3 := (mulrBody_cases s2).resolve_left fun h => not_mulrOutOfRange_of_kestBody_gldBody hc ho he h1 h2 h.1
  exact ⟨_, s2, _, _, _, h1, h2, h3.2, rfl, rfl⟩

end

/-- A body under the gate that completes leaves no fault standing. -/
theorem statusErr_of_commandBody {i : Instr} {s t : State} (hclr : i ≠ .errclr) (hrst : i ≠ .srst)
    (he : statusErr s.status = false) (hb : commandBody i s = .ok t) : statusErr t.status = false := by
  rw [(commandBody_controlKept hclr hrst hb).status, he]

/-- Settles O37: the five bodies complete, so each command runs on a state with no fault, and SHORTEST answers the last one's. -/
theorem shortestGeneralPath : Obligations.ShortestGeneralPath := by
  intro s he hc hint ho
  obtain ⟨s1, s2, s3, s4, s5, h1, h2, h3, h4, h5⟩ := generalPath_steps hc ho he
  have he1 := statusErr_of_commandBody (i := .kest) nofun nofun he h1
  have he2 := statusErr_of_commandBody (i := .gld) nofun nofun he1 h2
  have he3 := statusErr_of_commandBody (i := .mulr) nofun nofun he2 h3
  have he4 := statusErr_of_commandBody (i := .bsel) nofun nofun he3 h4
  have hpath := (generalPath_ok_iff s s5).mpr ⟨s1, s2, s3, s4, h1, h2, h3, h4, h5⟩
  have hkept := generalPath_controlKept hpath
  have hshort := ((shortestBody_of_not_int hc hint).resolve_right fun h => h.1 ho).2.trans hpath
  exact ⟨s1, s2, s3, s4, s5, exec_of_commandBody_ok he h1, exec_of_commandBody_ok he1 h2, exec_of_commandBody_ok he2 h3,
    exec_of_commandBody_ok he3 h4, exec_of_commandBody_ok he4 h5,
    exec_of_commandBody_ok he hshort, hkept.status, hkept.einfo⟩

/-! ### The step commands one after another -/

/-- While a fault stands a list of commands without ERRCLR and SRST leaves the state as it is (R86 step 4). -/
theorem execAll_of_fault {s : State} (he : statusErr s.status = true) (l : List Instr)
    (hl : ∀ i ∈ l, i ≠ .errclr ∧ i ≠ .srst) : execAll l s = .next s := by
  induction l with
  | nil => rfl
  | cons i is ih =>
    obtain ⟨⟨hclr, hrst⟩, his⟩ := List.forall_mem_cons.mp hl
    rw [execAll, faultGatesCommands i s he hclr hrst]
    exact ih his

/-- A command that answers `t` hands `t` to the commands after it. -/
theorem execAll_cons_of_next {i : Instr} {s t : State} (h : exec i s = .next t) (is : List Instr) :
    execAll (i :: is) s = execAll is t := by
  rw [execAll, h]

/-- Settles O39: on admissible operands both complete with the same state; otherwise KEST faults and the gate ignores the
rest, and SHORTEST faults with the same cause. -/
theorem stepwiseEqualsShortest : Obligations.StepwiseEqualsShortest := by
  intro s he hc hint
  by_cases ho : operandsOK s
  · obtain ⟨t1, t2, t3, t4, t5, h1, h2, h3, h4, h5, hshort, hstatus, -⟩ := shortestGeneralPath s he hc hint ho
    have hall : execAll [.kest, .gld, .mulr, .bsel, .dnorm] s = .next t5 := by
      rw [execAll_cons_of_next h1, execAll_cons_of_next h2, execAll_cons_of_next h3, execAll_cons_of_next h4,
        execAll_cons_of_next h5, execAll]
    have hnone : ¬statusErr t5.status = true := by rw [hstatus, he]; exact Bool.false_ne_true
    exact ⟨t5, t5, hall, hshort, rfl, fun _ => rfl, fun h => absurd h hnone⟩
  · have hkest := exec_of_commandBody_error (i := .kest) he ((kestBody_error_iff s .oprange).mpr (.inr ⟨hc, ho, rfl⟩))
    have hfault : statusErr (s.raise .oprange (encode .kest)).status = true := statusErr_statusFaulted _ _
    have hall : execAll [.kest, .gld, .mulr, .bsel, .dnorm] s = .next (s.raise .oprange (encode .kest)) := by
      rw [execAll_cons_of_next hkest, execAll_of_fault hfault _ (by decide)]
    have hb := ((shortestBody_of_not_int hc hint).resolve_left fun h => ho h.1).2
    exact ⟨_, _, hall, exec_of_commandBody_error (i := .shortest) he hb, rfl,
      fun h => (by cases hfault.symm.trans h), fun _ => ⟨rfl, rfl⟩⟩

/-! ### The record SHORTEST leaves -/

/-- What DNORM writes is the zero record or a canonical one (R151). -/
theorem dnormRecord_canonical {f : ℕ} (e : ℤ) (s : State) (hf : f < 2 ^ 64) :
    let t := dnormRecord f e s
    (t.f = 0 ∧ t.e = 0 ∧ t.n = 0) ∨ Canonical t.f.toNat t.n.toNat := by
  obtain ⟨-, hr⟩ | ⟨h0, hr⟩ := dnormRecord_cases f e s <;> rw [hr]
  · exact .inl ⟨rfl, rfl, rfl⟩
  · have hsig : f / 10 ^ tz10 f < 2 ^ 64 := (Nat.div_le_self _ _).trans_lt hf
    have hlen := len10_le_twenty hsig
    refine .inr ?_
    rw [State.setRecord_f, State.setRecord_n, toNat_word _ hsig, toNat_word _ (by omega)]
    exact (canonical_strip h0).2

/-- Settles O40: each path of SHORTEST that completes ends in the zero record or in DNORM's. -/
theorem shortestRecordIsCanonical : Obligations.ShortestRecordIsCanonical := by
  intro s t he h ht
  have hbody : shortestBody s = .ok t := commandBody_of_exec (i := .shortest) nofun nofun he h ht
  obtain rfl | ⟨f, hf, rfl⟩ | hgeneral := shortestBody_ok_cases hbody
  · exact .inl ⟨rfl, rfl, rfl⟩
  · exact dnormRecord_canonical 0 s hf
  · obtain ⟨_, _, _, s4, -, -, -, -, hdnorm⟩ := (generalPath_ok_iff s t).mp hgeneral
    obtain rfl := Except.ok.inj hdnorm
    exact dnormRecord_canonical _ s4 s4.f.isLt

end Sys2Proof.Machine
end

section
/-! BSEL (41_boundary R130, R132, R133): the coarse test, the full test, and the record of the candidate taken. -/

namespace Sys2Proof.Machine

/-! ### The flags BSEL writes -/

section
variable (flags : Word) (upin wpin uin win : Bool) (sel : BitVec 2) (tie : Bool)

@[simp] theorem flagUpin_putTests : flagUpin (putTests flags upin wpin uin win sel tie) = upin :=
  getLsbD_putTests _ _ _ _ _ _ _ 8

@[simp] theorem flagWpin_putTests : flagWpin (putTests flags upin wpin uin win sel tie) = wpin :=
  getLsbD_putTests _ _ _ _ _ _ _ 9

@[simp] theorem flagUin_putTests : flagUin (putTests flags upin wpin uin win sel tie) = uin :=
  getLsbD_putTests _ _ _ _ _ _ _ 10

@[simp] theorem flagWin_putTests : flagWin (putTests flags upin wpin uin win sel tie) = win :=
  getLsbD_putTests _ _ _ _ _ _ _ 11

@[simp] theorem flagTie_putTests : flagTie (putTests flags upin wpin uin win sel tie) = tie :=
  getLsbD_putTests _ _ _ _ _ _ _ 14

@[simp] theorem flagSel_putTests : flagSel (putTests flags upin wpin uin win sel tie) = sel := by
  rw [flagSel, putTests, getField_putField_of_disjoint _ _ _ _ _ (by decide) (by decide)]
  exact getField_putField _ _ _ (by decide)

/-- BSEL leaves the bits outside FLAGS[14:8]. -/
theorem getLsbD_putTests_outside {j : ℕ} (hj : j < 8 ∨ 15 ≤ j) :
    (putTests flags upin wpin uin win sel tie).getLsbD j = flags.getLsbD j := by
  rw [getLsbD_putTests]
  repeat rw [if_neg (by omega)]

end

/-! ### The comparator in closed form -/

theorem lowIn_iff (vbl out m : ℕ) : lowIn vbl out m = true ↔ vbl + out ≤ 4 * m := decide_eq_true_iff

theorem highIn_iff (vbr out m : ℕ) : highIn vbr out m = true ↔ 4 * m + out ≤ vbr := decide_eq_true_iff

/-- UPIN: the low-end test of sp10, 0 when s < 100 (R130). -/
def coarseLow (vb vbl out : ℕ) : Bool := decide (100 ≤ vb / 4) && lowIn vbl out (10 * (vb / 4 / 10))

/-- WPIN: the high-end test of tp10, 0 when s < 100 (R130). -/
def coarseHigh (vb vbr out : ℕ) : Bool := decide (100 ≤ vb / 4) && highIn vbr out (10 * (vb / 4 / 10) + 10)

theorem coarseLow_iff (vb vbl out : ℕ) :
    coarseLow vb vbl out = true ↔ 100 ≤ vb / 4 ∧ vbl + out ≤ 4 * (10 * (vb / 4 / 10)) := by
  rw [coarseLow, Bool.and_eq_true, decide_eq_true_iff, lowIn_iff]

theorem coarseHigh_iff (vb vbr out : ℕ) :
    coarseHigh vb vbr out = true ↔ 100 ≤ vb / 4 ∧ 4 * (10 * (vb / 4 / 10) + 10) + out ≤ vbr := by
  rw [coarseHigh, Bool.and_eq_true, decide_eq_true_iff, highIn_iff]

/-- The full test takes s: it alone is inside, or it is the nearer, or on a tie the even one (R130). -/
def takesLow (vb vbl vbr out : ℕ) : Bool :=
  if lowIn vbl out (vb / 4) ≠ highIn vbr out (vb / 4 + 1) then lowIn vbl out (vb / 4)
  else decide (vb < 4 * (vb / 4) + 2 ∨ (vb = 4 * (vb / 4) + 2 ∧ vb / 4 % 2 = 0))

section
variable (vb vbl vbr out : ℕ)

/-- The full test by which of s and t it takes (R130). -/
theorem selectFull_eq :
    selectFull vb vbl vbr out =
      { upin := false, wpin := false, uin := lowIn vbl out (vb / 4), win := highIn vbr out (vb / 4 + 1),
        sel := if takesLow vb vbl vbr out = true then 0 else 1,
        tie := decide (lowIn vbl out (vb / 4) = highIn vbr out (vb / 4 + 1) ∧ vb = 4 * (vb / 4) + 2),
        cand := if takesLow vb vbl vbr out = true then vb / 4 else vb / 4 + 1 } := by
  by_cases hne : lowIn vbl out (vb / 4) ≠ highIn vbr out (vb / 4 + 1)
  · have hneq : ¬lowIn vbl out (vb / 4) = highIn vbr out (vb / 4 + 1) := hne
    simp only [selectFull, takesLow, if_pos hne, hneq, false_and, decide_false]
    by_cases hlow : lowIn vbl out (vb / 4) = true <;> simp [hlow]
  · have heq : lowIn vbl out (vb / 4) = highIn vbr out (vb / 4 + 1) := not_not.mp hne
    simp only [selectFull, takesLow, heq, true_and]
    obtain hlt | htie | hgt := lt_trichotomy vb (4 * (vb / 4) + 2)
    · simp [hlt, hlt.ne]
    · by_cases heven : vb / 4 % 2 = 0 <;> simp [← htie, heven]
    · simp [hgt, hgt.ne', hgt.not_gt]

/-- The comparator with the guard s >= 100 drawn into the two coarse tests (R130, R137). -/
theorem select_eq :
    select vb vbl vbr out =
      if coarseLow vb vbl out ≠ coarseHigh vb vbr out then
        { upin := coarseLow vb vbl out, wpin := coarseHigh vb vbr out, uin := false, win := false,
          sel := if coarseLow vb vbl out = true then 2 else 3, tie := false,
          cand := if coarseLow vb vbl out = true then 10 * (vb / 4 / 10) else 10 * (vb / 4 / 10) + 10 }
      else
        { selectFull vb vbl vbr out with upin := coarseLow vb vbl out, wpin := coarseHigh vb vbr out } := by
  unfold select coarseLow coarseHigh
  by_cases hs : 100 ≤ vb / 4
  · simp only [hs, if_true, decide_true, Bool.true_and]
  · simp only [hs, if_false, decide_false, Bool.false_and, ne_eq, not_true_eq_false, selectFull_eq]

/-- What R130 says of the comparator's findings. -/
def Selection.FollowsRule (vb vbl vbr out : ℕ) (r : Selection) : Prop :=
  (r.upin = true ↔ 100 ≤ vb / 4 ∧ vbl + out ≤ 4 * (10 * (vb / 4 / 10))) ∧
  (r.wpin = true ↔ 100 ≤ vb / 4 ∧ 4 * (10 * (vb / 4 / 10) + 10) + out ≤ vbr) ∧
  (r.uin = true ↔ ¬r.upin ≠ r.wpin ∧ vbl + out ≤ 4 * (vb / 4)) ∧
  (r.win = true ↔ ¬r.upin ≠ r.wpin ∧ 4 * (vb / 4 + 1) + out ≤ vbr) ∧
  (r.tie = true ↔ ¬r.upin ≠ r.wpin ∧ r.uin = r.win ∧ vb = 4 * (vb / 4) + 2) ∧
  (r.upin ≠ r.wpin → r.sel = if r.upin = true then 2 else 3) ∧
  (¬r.upin ≠ r.wpin → r.uin ≠ r.win → r.sel = if r.uin = true then 0 else 1) ∧
  (¬r.upin ≠ r.wpin → r.uin = r.win →
    r.sel = if vb < 4 * (vb / 4) + 2 ∨ (vb = 4 * (vb / 4) + 2 ∧ vb / 4 % 2 = 0) then 0 else 1) ∧
  r.cand = if r.sel = 0 then vb / 4 else if r.sel = 1 then vb / 4 + 1
    else if r.sel = 2 then 10 * (vb / 4 / 10) else 10 * (vb / 4 / 10) + 10

/-- The comparator follows R130, whether the coarse test decides or not. -/
theorem select_followsRule : (select vb vbl vbr out).FollowsRule vb vbl vbr out := by
  have hlow := coarseLow_iff vb vbl out
  have hhigh := coarseHigh_iff vb vbr out
  rw [select_eq]
  by_cases hdecided : coarseLow vb vbl out ≠ coarseHigh vb vbr out
  · rw [if_pos hdecided]
    refine ⟨hlow, hhigh, ?_, ?_, ?_, fun _ => rfl, fun h => absurd hdecided h, fun h => absurd hdecided h, ?_⟩
    · simp [hdecided]
    · simp [hdecided]
    · simp [hdecided]
    · cases coarseLow vb vbl out <;> simp
  · rw [if_neg hdecided, selectFull_eq]
    refine ⟨hlow, hhigh, ?_, ?_, ?_, fun h => absurd h hdecided, fun _ hne => ?_, fun _ heq => ?_, ?_⟩
    · simp [hdecided, lowIn_iff]
    · simp [hdecided, highIn_iff]
    · simp [hdecided]
    · exact if_congr (by rw [takesLow, if_pos hne]) rfl rfl
    · exact if_congr (by rw [takesLow, if_neg (not_not_intro heq), decide_eq_true_iff]) rfl rfl
    · cases takesLow vb vbl vbr out <;> simp

end

/-! ### The record of the candidate -/

/-- The exponent BSEL writes: K + DK (R130, R17). -/
theorem u64_add_decimalShift (k flags : Word) :
    u64 (s64 k + decimalShift flags) = k - (if flagDkf flags = true then 1 else 0) := by
  unfold decimalShift
  cases flagDkf flags
  · simp
  · simp [u64, s64, BitVec.ofInt_add, BitVec.sub_eq_add_neg]

/-- Settles O34: the flags are the comparator's findings, and the record is that of the candidate it takes. -/
theorem bselPicksCandidate : Obligations.BselPicksCandidate := by
  refine ⟨rfl, fun s he => ?_⟩
  obtain ⟨f, e, n, r, hr, hb, hrecord⟩ := bselBody_eq s
  have hcand : r.cand < 2 ^ 64 := by
    have hle := select_cand_le s.vb.toNat s.vbl.toNat s.vbr.toNat (s.c.toNat % 2)
    have hvb := s.vb.isLt
    rw [hr]
    omega
  have hrule : r.FollowsRule s.vb.toNat s.vbl.toNat s.vbr.toNat (s.c.toNat % 2) := hr ▸ select_followsRule _ _ _ _
  obtain ⟨hupin, hwpin, huin, hwin, htie, hsel, hselne, hseleq, hcandsel⟩ := hrule
  refine ⟨_, r.cand, exec_of_commandBody_ok (i := .bsel) he hb, rfl, fun j hj => getLsbD_putTests_outside _ _ _ _ _ _ _ hj, ?_⟩
  simp only [State.setFlags_flags, flagUpin_putTests, flagWpin_putTests, flagUin_putTests, flagWin_putTests, flagTie_putTests,
    flagSel_putTests]
  refine ⟨hupin, hwpin, huin, hwin, htie, hsel, hselne, hseleq, hcandsel, fun h0 => ?_, fun h0 => ?_⟩
  · obtain ⟨-, rfl, rfl, rfl⟩ | ⟨hpos, -⟩ := hrecord
    · exact ⟨rfl, rfl, rfl⟩
    · omega
  · obtain ⟨h, -⟩ | ⟨-, rfl, rfl, rfl⟩ := hrecord
    · exact absurd h h0
    · have hlen := len10_le_twenty hcand
      have hn : (word (len10 r.cand)).toNat = len10 r.cand := toNat_word _ (by omega)
      exact ⟨toNat_word _ hcand, u64_add_decimalShift _ _, ((eq_len10_iff _ _ h0).mp hn).2⟩

end Sys2Proof.Machine
end

section
/-! The digit unit (42_digits R150 to R157, R219): DNORM, DIGITS and PCALC. -/

namespace Sys2Proof.Machine

/-! ### Registers as integers -/

/-- A register that is not 0 is not 0 as an integer. -/
theorem toNat_ne_zero_of_ne {v : Word} (h : v ≠ 0) : v.toNat ≠ 0 := fun h0 => h (BitVec.eq_of_toNat_eq h0)

/-- Adding a natural number to the signed reading of a register is addition modulo 2^64 (R10). -/
theorem u64_s64_add_natCast (v : Word) (m : ℕ) : u64 (s64 v + m) = v + word m := by
  simp [u64, s64, word, BitVec.ofInt_add]

/-! ### DNORM -/

/-- DNORM with no fault standing completes with the stripped record (R152). -/
theorem exec_dnorm {s : State} (he : statusErr s.status = false) :
    exec .dnorm s = .next (dnormRecord s.f.toNat (s64 s.e) s) :=
  exec_of_commandBody_ok (i := .dnorm) he rfl

/-- Settles O41: F without its trailing zeros times the power of ten that E takes is the old F. -/
theorem dnormStripsZeros : Obligations.DnormStripsZeros := by
  refine ⟨rfl, fun s he => ⟨_, exec_dnorm he, ?_⟩⟩
  obtain ⟨h0, hr⟩ | ⟨hpos, hr⟩ := dnormRecord_cases s.f.toNat (s64 s.e) s <;> rw [hr]
  · exact ⟨rfl, fun _ => ⟨rfl, rfl, rfl⟩, fun h => absurd h0 (toNat_ne_zero_of_ne h)⟩
  · have hsig : s.f.toNat / 10 ^ tz10 s.f.toNat < 2 ^ 64 := (Nat.div_le_self _ _).trans_lt s.f.isLt
    have hlen := len10_le_twenty hsig
    obtain ⟨hvalue, hcanonical⟩ := canonical_strip hpos
    refine ⟨rfl, fun h => absurd (congrArg BitVec.toNat h) hpos.ne', fun _ => ⟨tz10 s.f.toNat, ?_⟩⟩
    rw [State.setRecord_f, State.setRecord_e, State.setRecord_n, toNat_word _ hsig, toNat_word _ (by omega)]
    exact ⟨hvalue.symm, u64_s64_add_natCast _ _, hcanonical⟩

/-! ### DIGITS -/

/-- One more BCD digit stands above the digits packed before it (R154). -/
theorem packDigits_succ (f start count : ℕ) :
    packDigits f start (count + 1) = packDigits f start count ||| digitAt f (start + count) <<< (4 * count) := by
  simp [packDigits, List.range_succ]

/-- Packed digits fill four bits each. -/
theorem packDigits_lt (f start count : ℕ) : packDigits f start count < 2 ^ (4 * count) := by
  induction count with
  | zero => exact Nat.one_pos
  | succ count ih =>
    have hdigit : digitAt f (start + count) < 2 ^ 4 := (Nat.mod_lt _ (by decide)).trans (by decide)
    have hpow : 2 ^ (4 * (count + 1)) = 2 ^ 4 * 2 ^ (4 * count) := by rw [← pow_add]; ring
    rw [packDigits_succ]
    refine Nat.or_lt_two_pow (ih.trans_le ?_) ?_
    · exact Nat.pow_le_pow_right (by decide) (by omega)
    · rw [Nat.shiftLeft_eq, hpow]
      exact Nat.mul_lt_mul_of_pos_right hdigit (by positivity)

/-- The next digit is added above the digits packed before it: no bits overlap. -/
theorem packDigits_succ_eq_add (f start count : ℕ) :
    packDigits f start (count + 1) = 2 ^ (4 * count) * digitAt f (start + count) + packDigits f start count := by
  rw [packDigits_succ, Nat.lor_comm, ← Nat.shiftLeft_add_eq_or_of_lt (packDigits_lt f start count), Nat.shiftLeft_eq,
    Nat.mul_comm]

/-- Nibble j of the packed digits is digit `start + j` (R154). -/
theorem packDigits_nibble (f start : ℕ) {count j : ℕ} (hj : j < count) :
    packDigits f start count / 2 ^ (4 * j) % 2 ^ 4 = digitAt f (start + j) := by
  induction count with
  | zero => omega
  | succ count ih =>
    rw [packDigits_succ_eq_add]
    obtain rfl | hlt := Nat.eq_or_lt_of_le (Nat.le_of_lt_succ hj)
    · rw [Nat.mul_add_div (by positivity), Nat.div_eq_of_lt (packDigits_lt f start j), Nat.add_zero]
      exact Nat.mod_eq_of_lt ((Nat.mod_lt _ (by decide)).trans (by decide))
    · have hdvd : 2 ^ (4 * j) * 2 ^ 4 ∣ 2 ^ (4 * count) := by
        rw [← pow_add]
        exact pow_dvd_pow 2 (by omega)
      obtain ⟨k, hk⟩ := hdvd
      rw [← ih hlt, ← Nat.mod_mul_right_div_self, ← Nat.mod_mul_right_div_self, hk, Nat.mul_assoc, Nat.mul_add_mod]

/-- The packed digits of at most sixteen places, read from their register. -/
theorem extract_word_packDigits (f start : ℕ) {count j : ℕ} (hcount : count ≤ 16) (hj : j < count) :
    ((word (packDigits f start count)).extractLsb' (4 * j) 4).toNat = f / 10 ^ (start + j) % 10 := by
  have hfits : packDigits f start count < 2 ^ 64 :=
    (packDigits_lt f start count).trans_le (Nat.pow_le_pow_right (by decide) (by omega))
  rw [BitVec.extractLsb'_toNat, toNat_word _ hfits, Nat.shiftRight_eq_div_pow, packDigits_nibble f start hj, digitAt]

/-- Settles O42: DIGLO packs digits 0 to 15, DIGHI digits 16 to 19, and N counts them. -/
theorem digitsExtractsBcd : Obligations.DigitsExtractsBcd := by
  refine ⟨rfl, fun s he => ⟨_, exec_of_commandBody_ok (i := .digits) he rfl, rfl, fun i hi => ?_, fun i hlow hhigh => ?_, ?_⟩⟩
  · exact (extract_word_packDigits s.f.toNat 0 le_rfl hi).trans (by rw [zero_add])
  · exact (extract_word_packDigits s.f.toNat 16 (by decide) (by omega)).trans (by rw [Nat.add_sub_cancel' hlow])
  · have hdighi := packDigits_lt s.f.toNat 16 4
    have hlen := len10_le_twenty s.f.isLt
    have hn : (word (len10 s.f.toNat)).toNat = len10 s.f.toNat := toNat_word _ (by omega)
    simp only [digitsWrites, State.setDigits_dighi, State.setDigits_n]
    rw [hn, toNat_word _ (by omega)]
    refine ⟨hdighi, (len10_le_iff _ _).mp le_rfl, hlen, fun h0 => ?_, fun h0 => ?_⟩
    · rw [h0]
      rfl
    · exact ((eq_len10_iff _ _ (toNat_ne_zero_of_ne h0)).mp rfl).2.1

/-! ### PCALC -/

/-- The signed reading of `u64 x` is x modulo 2^64 (R10). -/
theorem toInt_u64_sub_emod (x : ℤ) : ((u64 x).toInt - x) % 2 ^ 64 = 0 := by
  rw [u64, BitVec.toInt_ofInt]
  exact Int.emod_eq_zero_of_dvd Int.dvd_bmod_sub_self

/-- Settles O43: the two answers of PCALC's body. -/
theorem pcalcAddsPrecision : Obligations.PcalcAddsPrecision := by
  refine ⟨rfl, fun s he => ?_⟩
  obtain ⟨hrec, hb⟩ | ⟨hrec, hb⟩ := pcalcBody_cases s
  · exact ⟨fun _ => ⟨_, exec_of_commandBody_ok (i := .pcalc) he hb, rfl, toInt_u64_sub_emod _⟩, fun h => absurd hrec h⟩
  · exact ⟨fun h => absurd h hrec, fun _ => exec_faultEntered (i := .pcalc) he hb⟩

end Sys2Proof.Machine
end

section
/-! The digit unit (42_digits R158 to R161, R219): RNDP rounds half up, keeps the record valid, and the two carry modes. -/

namespace Sys2Proof.Machine

/-! ### What `round` returns -/

/-- `floor(f / 10^(n-p) + 1/2)` in integers (R158). -/
def halfUp (f n p : ℕ) : ℕ := (2 * f + 10 ^ (n - p)) / (2 * 10 ^ (n - p))

/-- Comparing twice the remainder with a is adding one half: R158's integer form of the rounding. -/
theorem div_add_roundUp_eq (f : ℕ) {a : ℕ} (ha : 0 < a) :
    f / a + (if a ≤ 2 * (f % a) then 1 else 0) = (2 * f + a) / (2 * a) := by
  have hrem : f % a < a := Nat.mod_lt f ha
  have hsum : 2 * f + a = 2 * a * (f / a) + (2 * (f % a) + a) := by
    calc 2 * f + a = 2 * (a * (f / a) + f % a) + a := by rw [Nat.div_add_mod]
      _ = 2 * a * (f / a) + (2 * (f % a) + a) := by ring
  rw [hsum, Nat.mul_add_div (by omega)]
  congr 1
  split_ifs with h
  · exact ((Nat.div_eq_iff (by omega)).mpr (by omega)).symm
  · exact (Nat.div_eq_of_lt (by omega)).symm

/-- `round` to p of n digits gives zero when every digit rounds away (R158). -/
theorem roundDrop_zero {f n p : ℕ} (e : ℤ) (jdk : Bool) (h0 : halfUp f n p = 0) :
    roundDrop f e n p jdk = ⟨0, 0, 0, false⟩ := by
  rw [halfUp, ← div_add_roundUp_eq f (by positivity)] at h0
  exact if_pos h0

/-- A carry out of the p digits is written by the carry mode (R158, R159). -/
theorem roundDrop_carry {f n p : ℕ} (e : ℤ) (jdk : Bool) (hc : halfUp f n p = 10 ^ p) :
    roundDrop f e n p jdk =
      if jdk = true ∧ 1 ≤ p then ⟨10 ^ (p - 1), e + (n - p : ℕ) + 1, p, true⟩
      else ⟨10 ^ p, e + (n - p : ℕ), p + 1, true⟩ := by
  have h0 : halfUp f n p ≠ 0 := hc ▸ (Nat.pow_pos (by decide)).ne'
  rw [halfUp, ← div_add_roundUp_eq f (by positivity)] at hc h0
  exact (if_neg h0).trans (if_pos hc)

/-- Any other result of `round` keeps p digits (R158). -/
theorem roundDrop_noCarry {f n p : ℕ} (e : ℤ) (jdk : Bool) (h0 : halfUp f n p ≠ 0) (hc : halfUp f n p ≠ 10 ^ p) :
    roundDrop f e n p jdk = ⟨halfUp f n p, e + (n - p : ℕ), p, false⟩ := by
  rw [halfUp, ← div_add_roundUp_eq f (by positivity)] at hc h0 ⊢
  exact (if_neg h0).trans (if_neg hc)

/-- `round` carries exactly when the rounded significand is 10^p (R158). -/
theorem roundDrop_carry_iff (f : ℕ) (e : ℤ) (n p : ℕ) (jdk : Bool) :
    (roundDrop f e n p jdk).carry = true ↔ halfUp f n p = 10 ^ p := by
  by_cases hc : halfUp f n p = 10 ^ p
  · rw [roundDrop_carry e jdk hc]
    split_ifs <;> simp [hc]
  · by_cases h0 : halfUp f n p = 0
    · simp [roundDrop_zero e jdk h0, hc]
    · simp [roundDrop_noCarry e jdk h0 hc, hc]

/-- A result of `round` to p digits is zero or has p or p + 1 digits (R161). -/
theorem roundDrop_n (f : ℕ) (e : ℤ) (n p : ℕ) (jdk : Bool) :
    roundDrop f e n p jdk = ⟨0, 0, 0, false⟩ ∨ (roundDrop f e n p jdk).n = p ∨ (roundDrop f e n p jdk).n = p + 1 := by
  by_cases h0 : halfUp f n p = 0
  · exact .inl (roundDrop_zero e jdk h0)
  · by_cases hc : halfUp f n p = 10 ^ p
    · rw [roundDrop_carry e jdk hc]
      split_ifs
      · exact .inr (.inl rfl)
      · exact .inr (.inr rfl)
    · rw [roundDrop_noCarry e jdk h0 hc]
      exact .inr (.inl rfl)

/-! ### The carry modes -/

/-- The results of the consistent mode and of the JDK mode denote one value (R159): they are equal, or both carry and the JDK
record moves one factor of ten from the significand to the exponent. -/
def SameValue (r j : Rounded) : Prop :=
  r = j ∨ (r.f = 10 * j.f ∧ j.e = r.e + 1 ∧ r.n = j.n + 1 ∧ r.carry = true ∧ j.carry = true)

/-- Dropping digits in the two modes: only a carry with p >= 1 differs. -/
theorem roundDrop_sameValue (f : ℕ) (e : ℤ) (n p : ℕ) : SameValue (roundDrop f e n p false) (roundDrop f e n p true) := by
  by_cases hc : halfUp f n p = 10 ^ p
  · rw [roundDrop_carry e false hc, roundDrop_carry e true hc, if_neg (by simp)]
    by_cases hp : 1 ≤ p
    · rw [if_pos ⟨rfl, hp⟩]
      exact .inr ⟨(mul_pow_sub_one (by omega) 10).symm, rfl, rfl, rfl, rfl⟩
    · rw [if_neg fun h => hp h.2]
      exact .inl rfl
  · by_cases h0 : halfUp f n p = 0
    · exact .inl ((roundDrop_zero e false h0).trans (roundDrop_zero e true h0).symm)
    · exact .inl ((roundDrop_noCarry e false h0 hc).trans (roundDrop_noCarry e true h0 hc).symm)

/-- `round` in the two modes: the cases that drop no digits do not use the mode. -/
theorem roundRecord_sameValue (f : ℕ) (e : ℤ) (n : ℕ) (p : ℤ) :
    SameValue (roundRecord f e n p false) (roundRecord f e n p true) := by
  unfold roundRecord
  split_ifs
  · exact .inl rfl
  · exact .inl rfl
  · exact roundDrop_sameValue f e n p.toNat

/-! ### RNDP on the registers -/

/-- A register whose signed reading is not negative reads the same unsigned (R10). -/
theorem toNat_s64 {v : Word} (h : 0 ≤ s64 v) : (s64 v).toNat = v.toNat := by
  have hv := v.isLt
  unfold s64 at h ⊢
  rw [BitVec.toInt_eq_toNat_cond] at h ⊢
  split at h <;> omega

/-- What RNDP makes of the record in the carry mode `jdk` (R160). -/
def State.rounded (s : State) (jdk : Bool) : Rounded := roundRecord s.f.toNat (s64 s.e) s.n.toNat (s64 s.p) jdk

/-- What RNDP writes of it: F, E, N and FLAGS.CARRY (R160). -/
def State.setRounded (s : State) (r : Rounded) : State :=
  (s.setRecord (word r.f) (u64 r.e) (word r.n)).setFlags (putCarry s.flags r.carry)

@[simp] theorem State.setRounded_f (s : State) (r : Rounded) : (s.setRounded r).f = word r.f := rfl
@[simp] theorem State.setRounded_e (s : State) (r : Rounded) : (s.setRounded r).e = u64 r.e := rfl
@[simp] theorem State.setRounded_n (s : State) (r : Rounded) : (s.setRounded r).n = word r.n := rfl
@[simp] theorem State.setRounded_flags (s : State) (r : Rounded) : (s.setRounded r).flags = putCarry s.flags r.carry := rfl

/-- FLAGS.CARRY reads as it was written. -/
@[simp] theorem flagCarry_putCarry (flags : Word) (carry : Bool) : flagCarry (putCarry flags carry) = carry :=
  getLsbD_putCarry flags carry 15

section
variable {s : State} (jdk : Bool)

/-- F = 0 or P < 0 rounds to the zero record (R158). -/
theorem rounded_zero (h : s.f = 0 ∨ s64 s.p < 0) : s.rounded jdk = ⟨0, 0, 0, false⟩ :=
  if_pos (h.imp_left (congrArg BitVec.toNat))

/-- P >= N keeps the record (R158). -/
theorem rounded_keep (h0 : s.f ≠ 0) (hp : (s.n.toNat : ℤ) ≤ s64 s.p) :
    s.rounded jdk = ⟨s.f.toNat, s64 s.e, s.n.toNat, false⟩ :=
  have hz : ¬(s.f.toNat = 0 ∨ s64 s.p < 0) := not_or.mpr ⟨toNat_ne_zero_of_ne h0, by omega⟩
  (if_neg hz).trans (if_pos hp)

/-- 0 <= P < N drops the last N - P digits (R158). -/
theorem rounded_drop (h0 : s.f ≠ 0) (hp : 0 ≤ s64 s.p) (hlt : s64 s.p < s.n.toNat) :
    s.rounded jdk = roundDrop s.f.toNat (s64 s.e) s.n.toNat s.p.toNat jdk :=
  have hz : ¬(s.f.toNat = 0 ∨ s64 s.p < 0) := not_or.mpr ⟨toNat_ne_zero_of_ne h0, not_lt.mpr hp⟩
  (if_neg hz).trans ((if_neg (not_le.mpr hlt)).trans (by rw [toNat_s64 hp]))

end

/-- The digit count of the result (R161): 0 with the zero record, N when P >= N, and otherwise P or P + 1. -/
theorem rounded_n_cases (s : State) (jdk : Bool) :
    ((s.rounded jdk).f = 0 ∧ (s.rounded jdk).n = 0) ∨
    ((s.n.toNat : ℤ) ≤ s64 s.p ∧ (s.rounded jdk).n = s.n.toNat) ∨
    (s64 s.p < s.n.toNat ∧ (((s.rounded jdk).n : ℤ) = s64 s.p ∨ ((s.rounded jdk).n : ℤ) = s64 s.p + 1)) := by
  by_cases hz : s.f = 0 ∨ s64 s.p < 0
  · rw [rounded_zero jdk hz]
    exact .inl ⟨rfl, rfl⟩
  · obtain ⟨h0, hp⟩ := not_or.mp hz
    obtain hkeep | hlt := le_or_gt (s.n.toNat : ℤ) (s64 s.p)
    · rw [rounded_keep jdk h0 hkeep]
      exact .inr (.inl ⟨hkeep, rfl⟩)
    · have hpos : 0 ≤ s64 s.p := not_lt.mp hp
      have hunsigned := toNat_s64 hpos
      rw [rounded_drop jdk h0 hpos hlt]
      obtain hr | hn := roundDrop_n s.f.toNat (s64 s.e) s.n.toNat s.p.toNat jdk
      · rw [hr]
        exact .inl ⟨rfl, rfl⟩
      · exact .inr (.inr ⟨hlt, by omega⟩)

/-- RNDP on a valid record writes the rounded record in the mode of CTRL.JDK (R160). -/
theorem exec_rndp {s : State} (he : statusErr s.status = false) (hrec : recordOK s) :
    exec .rndp s = .next (s.setRounded (s.rounded (ctrlJdk s.ctrl))) := by
  obtain ⟨-, r, rfl, hb⟩ | ⟨hinvalid, -⟩ := rndpBody_cases s
  · exact exec_of_commandBody_ok (i := .rndp) he hb
  · exact absurd hrec hinvalid

/-- RNDP rounds a valid record to a valid one, in either mode (R161). -/
theorem rounded_valid {s : State} (hrec : recordOK s) (jdk : Bool) : (s.rounded jdk).Valid := by
  refine roundRecord_valid _ _ jdk s.f.isLt fun h0 => ?_
  obtain ⟨hzero, -⟩ | ⟨-, hn⟩ := hrec
  · exact absurd (congrArg BitVec.toNat hzero) h0
  · exact hn

/-- The significand of a valid result fits F. -/
theorem Rounded.Valid.toNat_f {r : Rounded} (h : r.Valid) : (word r.f).toNat = r.f := by
  obtain ⟨hf, -, -⟩ | ⟨-, hf, -⟩ := h
  · rw [hf]
    rfl
  · exact toNat_word _ hf

/-- The digit count of a valid result fits N. -/
theorem Rounded.Valid.toNat_n {r : Rounded} (h : r.Valid) : (word r.n).toNat = r.n := by
  obtain ⟨-, -, hn⟩ | ⟨-, hf, hn⟩ := h
  · rw [hn]
    rfl
  · have hlen := len10_le_twenty hf
    exact toNat_word _ (by omega)

/-- Settles O44: the clauses of R158, read off the cases of `round`. -/
theorem rndpRoundsHalfUp : Obligations.RndpRoundsHalfUp := by
  intro s he hrec
  have hvalid := rounded_valid hrec (ctrlJdk s.ctrl)
  have hf := hvalid.toNat_f
  have hn := hvalid.toNat_n
  refine ⟨_, exec_rndp he hrec, rfl, fun j hj => (getLsbD_putCarry _ _ _).trans (if_neg hj),
    fun hz => ?_, fun h0 hkeep => ?_, fun h0 hp hlt => ?_⟩
  · rw [rounded_zero _ hz]
    exact ⟨rfl, rfl, rfl, flagCarry_putCarry _ _⟩
  · rw [rounded_keep _ h0 hkeep]
    exact ⟨word_toNat _, u64_s64 _, word_toNat _, flagCarry_putCarry _ _⟩
  · have hr := rounded_drop (ctrlJdk s.ctrl) h0 hp hlt
    simp only [State.setRounded_f, State.setRounded_e, State.setRounded_n, State.setRounded_flags, flagCarry_putCarry, hf, hn]
    rw [hr]
    refine ⟨fun hzero => ?_, roundDrop_carry_iff _ _ _ _ _, fun hne hnc => ?_, fun hc hjdk hp1 => ?_, fun hc hmode => ?_⟩
    · rw [roundDrop_zero _ _ hzero]
      exact ⟨rfl, rfl, rfl⟩
    · rw [roundDrop_noCarry _ _ hne hnc]
      exact ⟨rfl, u64_s64_add_natCast _ _, rfl⟩
    · rw [roundDrop_carry _ _ hc, if_pos ⟨hjdk, hp1⟩]
      exact ⟨rfl, (congrArg u64 (add_assoc _ _ _)).trans (u64_s64_add_natCast _ (_ + 1)), rfl⟩
    · rw [roundDrop_carry _ _ hc, if_neg fun h => ?_]
      · exact ⟨rfl, u64_s64_add_natCast _ _, rfl⟩
      · obtain hj | hp0 := hmode
        · exact Bool.false_ne_true (hj.symm.trans h.1)
        · exact absurd h.2 (by omega)

/-- Settles O45: the two answers of RNDP's body, and the record DNORM writes. -/
theorem invalidRecordFaultsRndp : Obligations.InvalidRecordFaultsRndp := by
  refine ⟨rfl, fun s he => ⟨fun hinvalid => ?_, fun hrec => ⟨_, exec_rndp he hrec, rfl, rfl⟩,
    ⟨_, exec_dnorm he, recordOK_dnormRecord _ _ s.f.isLt⟩⟩⟩
  obtain ⟨hrec, -⟩ | ⟨-, hb⟩ := rndpBody_cases s
  · exact absurd hrec hinvalid
  · exact exec_faultEntered (i := .rndp) he hb

/-- Settles O46: the rounded record is valid, and each case of `round` bounds its digit count. -/
theorem rndpKeepsRecordValid : Obligations.RndpKeepsRecordValid := by
  intro s t he hrec h
  obtain rfl := Host.Outcome.next.inj ((exec_rndp he hrec).symm.trans h)
  have hvalid := rounded_valid hrec (ctrlJdk s.ctrl)
  have hn := hvalid.toNat_n
  rw [State.setRounded_f, State.setRounded_n, hn]
  have hcases := rounded_n_cases s (ctrlJdk s.ctrl)
  have hsig : word (s.rounded (ctrlJdk s.ctrl)).f ≠ 0 → (s.rounded (ctrlJdk s.ctrl)).f ≠ 0 := mt (congrArg word)
  refine ⟨hvalid.recOK, by omega, fun hne hp hlt => ?_, fun hne hkeep => ?_⟩
  · obtain ⟨hzero, -⟩ | ⟨hkeep, -⟩ | ⟨-, hcount⟩ := hcases
    · exact absurd hzero (hsig hne)
    · exact absurd hkeep (not_le.mpr hlt)
    · exact hcount
  · obtain ⟨hzero, -⟩ | ⟨-, hcount⟩ | ⟨hlt, -⟩ := hcases
    · exact absurd hzero (hsig hne)
    · rw [hcount, word_toNat]
    · exact absurd hkeep (not_le.mpr hlt)

/-- RNDP as if CTRL held `ctrl`: the record of the other carry mode (R159). -/
theorem exec_rndp_withCtrl {s : State} (he : statusErr s.status = false) (hrec : recordOK s) (ctrl : Word) :
    exec .rndp { s with ctrl := ctrl } = .next ({ s with ctrl := ctrl }.setRounded (s.rounded (ctrlJdk ctrl))) :=
  exec_rndp (s := { s with ctrl := ctrl }) he hrec

/-- Settles O47: the results of the two modes as registers. -/
theorem carryModesDenoteSameValue : Obligations.CarryModesDenoteSameValue := by
  intro s he hrec
  have hf := (rounded_valid hrec false).toNat_f
  have hfj := (rounded_valid hrec true).toNat_f
  have hsame : SameValue (s.rounded false) (s.rounded true) := roundRecord_sameValue _ _ _ _
  refine ⟨_, _, exec_rndp_withCtrl he hrec 0, exec_rndp_withCtrl he hrec 1, ?_⟩
  rw [show ctrlJdk 0 = false from rfl, show ctrlJdk 1 = true from rfl]
  generalize s.rounded false = r at hf hsame
  generalize s.rounded true = j at hfj hsame
  simp only [State.setRounded_f, State.setRounded_e, State.setRounded_n, State.setRounded_flags, flagCarry_putCarry]
  obtain rfl | ⟨hsig, hexp, hlen, hcarry, hcarryj⟩ := hsame
  · exact ⟨rfl, .inl ⟨rfl, rfl, rfl⟩⟩
  · refine ⟨by rw [hcarry, hcarryj], .inr ⟨by rw [hf, hfj, hsig], ?_, ?_, hcarry⟩⟩
    · rw [hexp]
      exact BitVec.ofInt_add _ _
    · rw [hlen]
      exact BitVec.ofNat_add _ _

end Sys2Proof.Machine
end

section
/-! The control commands (43_control R171 to R173): NOP, ERRCLR and SRST. -/

namespace Sys2Proof.Machine

/-- Settles O14: NOP's body keeps the state, and so does the gate. -/
theorem nopChangesNothing : Obligations.NopChangesNothing := by
  refine ⟨Laws.Encoding.nop.2, fun s => ?_⟩
  cases herr : statusErr s.status with
  | false => exact exec_of_commandBody_ok herr rfl
  | true => exact faultGatesCommands .nop s herr nofun nofun

/-! ### ERRCLR -/

/-- ERR, CAUSE and the reserved bits are all of STATUS (R23). -/
theorem status_eq_zero {v : Word} (herr : statusErr v = false) (hcause : statusCause v = 0#4)
    (hreserved : v &&& 0xFFFFFFFFFFFFF0FE = 0#64) : v = 0#64 := by
  have hmask : ∀ i < 64, i ≠ 0 → ¬(8 ≤ i ∧ i < 12) → (0xFFFFFFFFFFFFF0FE : Word).getLsbD i = true := by decide
  refine BitVec.eq_of_getLsbD_eq fun i hi => ?_
  rw [BitVec.getLsbD_zero]
  by_cases h0 : i = 0
  · rw [h0]
    exact herr
  · by_cases hc : 8 ≤ i ∧ i < 12
    · have hbit : (statusCause v).getLsbD (i - 8) = v.getLsbD i := by
        rw [statusCause, getLsbD_getField, decide_eq_true (by omega), Bool.true_and, Nat.add_sub_cancel' hc.1]
      rw [← hbit, hcause, BitVec.getLsbD_zero]
    · rw [← Bool.and_true (v.getLsbD i), ← hmask i hi h0 hc, ← BitVec.getLsbD_and, hreserved, BitVec.getLsbD_zero]

/-- With no fault standing the invariant leaves STATUS and EINFO nothing to hold (R23, R25). -/
theorem faultCleared_of_inv {s : State} (hs : Inv s) (herr : statusErr s.status = false) : FaultCleared s := by
  obtain ⟨⟨-, hreserved, -⟩, hrecord⟩ := hs
  obtain ⟨hcause, heinfo⟩ : statusCause s.status = 0 ∧ s.einfo = 0 := by simpa [faultRecorded, herr] using hrecord
  exact ⟨status_eq_zero herr hcause hreserved, heinfo⟩

/-- Leaving a fault that is not there changes nothing. -/
theorem clearFault_of_faultCleared {s : State} (h : FaultCleared s) : s.clearFault = s := by
  cases s
  obtain ⟨rfl, rfl⟩ := h
  rfl

/-- Settles O15: STATUS and EINFO are 0 already where the invariant holds and no fault stands. -/
theorem errclrClearsFault : Obligations.ErrclrClearsFault :=
  ⟨Laws.Encoding.errclr.2, fun _ => ⟨rfl, fun hs herr =>
    congrArg Host.Outcome.next (clearFault_of_faultCleared (faultCleared_of_inv hs herr))⟩⟩

/-! ### SRST -/

/-- The reset values are what a reset leaves in any state (R46, R240). -/
theorem content_resetRegisters_eq_reset (s : State) (r : Reg) : s.resetRegisters.content r = State.reset.content r :=
  (content_resetRegisters s r).trans (content_resetRegisters State.reset r).symm

/-- Settles O16: the command and the host's reset are the same update of the registers. -/
theorem srstResetsRegisters : Obligations.SrstResetsRegisters :=
  ⟨Laws.Encoding.srst.2, fun s => ⟨rfl, s.resetRegisters, rfl,
    fun r => ⟨content_resetRegisters s r, content_resetRegisters_eq_reset s r⟩, rfl, rfl⟩⟩

end Sys2Proof.Machine
end

section
/-! Exceptions (60_exceptions R211, R214): what a command writes when it completes (10_state R45), and which faults it takes. -/

namespace Sys2Proof.Machine

/-! ### Commands by their bodies -/

/-- A command is ignored while a fault stands, gives what its body gives, or takes the fault of its body with its own word. -/
theorem exec_next_cases {i : Instr} {s t : State} (h : exec i s = .next t) :
    (statusErr s.status = true ∧ t = s) ∨ commandBody i s = .ok t ∨
      ∃ x, commandBody i s = .error x ∧ t = s.raise x (encode i) := by
  obtain ⟨rfl, he⟩ | ⟨rfl, he⟩ | ⟨-, -, he⟩ := exec_cases i s <;> obtain rfl := Host.Outcome.next.inj (he.symm.trans h)
  · exact .inr (.inl rfl)
  · exact .inr (.inl rfl)
  · obtain ⟨herr, hc⟩ | ⟨-, u, hb, hc⟩ | ⟨-, x, hb, hc⟩ := command_cases i (commandBody i) s <;> rw [hc]
    · exact .inl ⟨herr, rfl⟩
    · exact .inr (.inl hb)
    · exact .inr (.inr ⟨x, hb, rfl⟩)

/-- A command that completes sets no fault: ERRCLR and SRST clear STATUS, the others keep it. -/
theorem statusErr_of_commandBody_ok {i : Instr} {s t : State} (herr : statusErr s.status = false)
    (h : commandBody i s = .ok t) : statusErr t.status = false := by
  have hzero : statusErr 0 = false := by decide
  obtain rfl | hclr := eq_or_ne i .errclr
  · obtain rfl := Except.ok.inj h
    exact hzero
  · obtain rfl | hrst := eq_or_ne i .srst
    · obtain rfl := Except.ok.inj h
      exact hzero
    · rw [(commandBody_controlKept hclr hrst h).status, herr]

/-- Settles O51: a command that completes leaves no fault, and the causes of a body are those of R211. -/
theorem faultCausesAreTabled : Obligations.FaultCausesAreTabled := by
  intro i s t herr h hfault
  obtain ⟨hstands, -⟩ | hb | ⟨x, hb, rfl⟩ := exec_next_cases h
  · cases hstands.symm.trans herr
  · cases hfault.symm.trans (statusErr_of_commandBody_ok herr hb)
  · exact ⟨x, faultEntered_raise s x _, mem_raisedCauses hb⟩

/-! ### The bits a command may write -/

/-- Going from `s` to `t` changes no bit outside those R45 lists for the command. -/
def WritesOnly (i : Instr) (s t : State) : Prop :=
  ∀ r, t.content r &&& ~~~(writeMask i r) = s.content r &&& ~~~(writeMask i r)

theorem WritesOnly.refl (i : Instr) (s : State) : WritesOnly i s s := fun _ => rfl

theorem WritesOnly.trans {i : Instr} {s t u : State} (h : WritesOnly i s t) (h' : WritesOnly i t u) : WritesOnly i s u :=
  fun r => (h' r).trans (h r)

/-- A command whose bits another may write too changes no bit outside the other's. -/
theorem WritesOnly.mono {i j : Instr} {s t : State} (h : WritesOnly i s t)
    (hmask : ∀ r, ~~~(writeMask j r) = ~~~(writeMask i r) &&& ~~~(writeMask j r)) : WritesOnly j s t := by
  intro r
  rw [hmask r, ← BitVec.and_assoc, ← BitVec.and_assoc, h r]

/-- No bit lies outside a whole register. -/
theorem and_not_wholeRegister (v w : Word) : v &&& ~~~wholeRegister = w &&& ~~~wholeRegister := by
  simp [wholeRegister]

section
variable (v : Word)

/-- DECOMP writes FLAGS[15:0] (R108). -/
theorem decompFlags_outside (dkf int fmt : Bool) (cls : BitVec 3) (sign : Bool) :
    decompFlags v dkf int fmt cls sign &&& ~~~0xFFFF = v &&& ~~~0xFFFF :=
  decompFlags_reserved v dkf int fmt cls sign

/-- KEST writes IRR (R124). -/
theorem putIrr_outside (b : Bool) : putIrr v b &&& ~~~0x0080 = v &&& ~~~0x0080 :=
  putField_and_of_disjoint _ _ _ _ (by decide) (by decide)

/-- RNDP writes CARRY (R160). -/
theorem putCarry_outside (b : Bool) : putCarry v b &&& ~~~0x8000 = v &&& ~~~0x8000 :=
  putField_and_of_disjoint _ _ _ _ (by decide) (by decide)

/-- BSEL writes the four tests, SEL and TIE (R130). -/
theorem putTests_outside (upin wpin uin win : Bool) (sel : BitVec 2) (tie : Bool) :
    putTests v upin wpin uin win sel tie &&& ~~~0x7F00 = v &&& ~~~0x7F00 := by
  simp (disch := decide) only [putTests, putField_and_of_disjoint]

end

section
variable {s t : State}

theorem setEstimate_writesOnly (s : State) (k h : Word) (irr : Bool) : WritesOnly .kest s (s.setEstimate k h irr) := by
  intro r
  cases r
  case k | h => exact and_not_wholeRegister _ _
  case flags => exact putIrr_outside _ _
  all_goals rfl

theorem setEntry_writesOnly (s : State) (g1 g0 : Word) : WritesOnly .gld s (s.setEntry g1 g0) := by
  intro r
  cases r
  case g1 | g0 => exact and_not_wholeRegister _ _
  all_goals rfl

theorem setProducts_writesOnly (s : State) (vb vbl vbr : Word) : WritesOnly .mulr s (s.setProducts vb vbl vbr) := by
  intro r
  cases r
  case vb | vbl | vbr => exact and_not_wholeRegister _ _
  all_goals rfl

theorem setRecord_writesOnly (s : State) (f e n : Word) : WritesOnly .dnorm s (s.setRecord f e n) := by
  intro r
  cases r
  case f | e | n => exact and_not_wholeRegister _ _
  all_goals rfl

/-- BSEL and RNDP write the record and their own bits of FLAGS. -/
theorem setRecord_setFlags_writesOnly {i : Instr} (hi : i = .bsel ∨ i = .rndp) (s : State) (f e n : Word) {v : Word}
    (hflags : v &&& ~~~(writeMask i .flags) = s.flags &&& ~~~(writeMask i .flags)) :
    WritesOnly i s ((s.setRecord f e n).setFlags v) := by
  intro r
  cases r
  case f | e | n => obtain rfl | rfl := hi <;> exact and_not_wholeRegister _ _
  case flags => exact hflags
  all_goals rfl

theorem setDigits_writesOnly (s : State) (diglo dighi n : Word) : WritesOnly .digits s (s.setDigits diglo dighi n) := by
  intro r
  cases r
  case diglo | dighi | n => exact and_not_wholeRegister _ _
  all_goals rfl

theorem setP_writesOnly (s : State) (p : Word) : WritesOnly .pcalc s (s.setP p) := by
  intro r
  cases r
  case p => exact and_not_wholeRegister _ _
  all_goals rfl

/-- DECOMP.D and DECOMP.S have the same row of R45. -/
theorem decompWrites_writesOnly {i : Instr} (hi : i = .decompD ∨ i = .decompS) (fmt : Bool) (s : State) :
    WritesOnly i s (decompWrites fmt s) := by
  intro r
  cases r
  case c | q => obtain rfl | rfl := hi <;> exact and_not_wholeRegister _ _
  case flags => obtain rfl | rfl := hi <;> exact decompFlags_outside _ _ _ _ _ _
  all_goals rfl

theorem clearFault_writesOnly (s : State) : WritesOnly .errclr s s.clearFault := by
  intro r
  cases r
  case status | einfo => exact and_not_wholeRegister _ _
  all_goals rfl

/-! ### What a body that completes writes -/

theorem kestBody_writesOnly (h : kestBody s = .ok t) : WritesOnly .kest s t := by
  obtain ⟨-, -, rfl⟩ := (kestBody_ok_iff s t).mp h
  exact setEstimate_writesOnly _ _ _ _

theorem gldBody_writesOnly (h : gldBody s = .ok t) : WritesOnly .gld s t := by
  obtain ⟨_, _, -, -, -, hb⟩ | ⟨-, hb⟩ := gldBody_cases s <;> cases hb.symm.trans h
  exact setEntry_writesOnly _ _ _

theorem mulrBody_writesOnly (h : mulrBody s = .ok t) : WritesOnly .mulr s t := by
  obtain ⟨-, hb⟩ | ⟨-, hb⟩ := mulrBody_cases s <;> cases hb.symm.trans h
  exact setProducts_writesOnly _ _ _ _

theorem bselBody_writesOnly (h : bselBody s = .ok t) : WritesOnly .bsel s t := by
  obtain ⟨_, _, _, _, -, hb, -⟩ := bselBody_eq s
  cases hb.symm.trans h
  exact setRecord_setFlags_writesOnly (.inl rfl) _ _ _ _ (putTests_outside _ _ _ _ _ _ _)

theorem dnormRecord_writesOnly (f : ℕ) (e : ℤ) (s : State) : WritesOnly .dnorm s (dnormRecord f e s) := by
  obtain ⟨-, hr⟩ | ⟨-, hr⟩ := dnormRecord_cases f e s <;> rw [hr] <;> exact setRecord_writesOnly _ _ _ _

theorem pcalcBody_writesOnly (h : pcalcBody s = .ok t) : WritesOnly .pcalc s t := by
  obtain ⟨-, hb⟩ | ⟨-, hb⟩ := pcalcBody_cases s <;> cases hb.symm.trans h
  exact setP_writesOnly _ _

theorem rndpBody_writesOnly (h : rndpBody s = .ok t) : WritesOnly .rndp s t := by
  obtain ⟨-, _, -, hb⟩ | ⟨-, hb⟩ := rndpBody_cases s <;> cases hb.symm.trans h
  exact setRecord_setFlags_writesOnly (.inr rfl) _ _ _ _ (putCarry_outside _ _)

/-- What a step of the general path may write, SHORTEST may write (R45). -/
theorem WritesOnly.shortest {i : Instr} (h : WritesOnly i s t) (hi : i ∈ [Instr.kest, .gld, .mulr, .bsel, .dnorm]) :
    WritesOnly .shortest s t := by
  refine h.mono fun r => ?_
  simp only [List.mem_cons, List.not_mem_nil, or_false] at hi
  obtain rfl | rfl | rfl | rfl | rfl := hi <;> cases r <;> rfl

/-- The general path writes what its five steps write. -/
theorem generalPath_writesOnly (h : generalPath s = .ok t) : WritesOnly .shortest s t := by
  obtain ⟨s1, s2, s3, s4, hkest, hgld, hmulr, hbsel, hdnorm⟩ := (generalPath_ok_iff s t).mp h
  obtain rfl := Except.ok.inj hdnorm
  exact ((kestBody_writesOnly hkest).shortest (by decide)).trans <|
    ((gldBody_writesOnly hgld).shortest (by decide)).trans <|
    ((mulrBody_writesOnly hmulr).shortest (by decide)).trans <|
    ((bselBody_writesOnly hbsel).shortest (by decide)).trans <|
    (dnormRecord_writesOnly _ _ _).shortest (by decide)

theorem shortestBody_writesOnly (h : shortestBody s = .ok t) : WritesOnly .shortest s t := by
  obtain rfl | ⟨_, -, rfl⟩ | hgeneral := shortestBody_ok_cases h
  · exact (setRecord_writesOnly _ _ _ _).shortest (by decide)
  · exact (dnormRecord_writesOnly _ _ _).shortest (by decide)
  · exact generalPath_writesOnly hgeneral

/-- A body that completes writes only the bits R45 lists for its command. -/
theorem commandBody_writesOnly {i : Instr} (h : commandBody i s = .ok t) : WritesOnly i s t := by
  cases i with
  | nop => obtain rfl := Except.ok.inj h; exact .refl _ _
  | errclr => obtain rfl := Except.ok.inj h; exact clearFault_writesOnly _
  | srst => exact fun _ => and_not_wholeRegister _ _
  | decompD => obtain rfl := Except.ok.inj h; exact decompWrites_writesOnly (.inl rfl) _ _
  | decompS => obtain rfl := Except.ok.inj h; exact decompWrites_writesOnly (.inr rfl) _ _
  | kest => exact kestBody_writesOnly h
  | gld => exact gldBody_writesOnly h
  | mulr => exact mulrBody_writesOnly h
  | bsel => exact bselBody_writesOnly h
  | shortest => exact shortestBody_writesOnly h
  | dnorm => obtain rfl := Except.ok.inj h; exact dnormRecord_writesOnly _ _ _
  | digits => obtain rfl := Except.ok.inj h; exact setDigits_writesOnly _ _ _ _
  | pcalc => exact pcalcBody_writesOnly h
  | rndp => exact rndpBody_writesOnly h

end

/-- Settles O49: a command is ignored, completes within its row of R45, or enters the fault its body gives. -/
theorem commandsWriteOnlyTheirRegisters : Obligations.CommandsWriteOnlyTheirRegisters := by
  intro i s t h
  obtain ⟨hpending, hobserved⟩ := Prod.mk.inj (exec_port h)
  refine ⟨hpending, hobserved, ?_⟩
  obtain ⟨-, rfl⟩ | hb | ⟨x, -, rfl⟩ := exec_next_cases h
  · exact .inr (WritesOnly.refl i _)
  · exact .inr (commandBody_writesOnly hb)
  · exact .inl ⟨x, faultEntered_raise s x _⟩

end Sys2Proof.Machine
end

section
/-! Reset and hazards (70_reset_and_hazards): what a command does straight after reset. -/

namespace Sys2Proof.Machine

/-- Settles O13: after reset no fault stands and FLAGS holds class Zero (R241), so SHORTEST writes the zero record, which
the reset state already holds. -/
theorem shortestAfterReset : Obligations.ShortestAfterReset := by
  have herr : statusErr State.reset.status = false := by decide
  have hzero : flagClass State.reset.flags = 0 := by decide
  exact shortestOnZero State.reset herr hzero

end Sys2Proof.Machine
end

section
/-! The fixed-point forms of the logarithms (00_scope R13). A logarithm and its fixed-point form are the floors of two lines
of nearly the same slope. A few lattice points that generate all the others fix on which side of either line every lattice
point of a range lies, so the two floors agree there. -/

namespace Sys2Proof.Machine

/-- Three lattice vectors (q, k): a point for a line to pass below, one for it to pass above, and a direction for it not to
fall behind. The direction and the step from the lower point to the upper one generate all lattice vectors. -/
structure LatticeFrame where
  upper : ℕ × ℕ
  lower : ℕ × ℕ
  direction : ℕ × ℕ
  lower_le_upper : lower.1 ≤ upper.1
  generates : (direction.1 : ℤ) * (upper.2 - lower.2) - direction.2 * (upper.1 - lower.1) = 1

/-- The line x k = y q + z passes between the two points of the frame and does not fall behind its direction. -/
structure LatticeFrame.Pins (L : LatticeFrame) (x y z : ℝ) : Prop where
  upper : y * L.upper.1 + z < x * L.upper.2
  lower : x * L.lower.2 ≤ y * L.lower.1 + z
  direction : x * L.direction.2 ≤ y * L.direction.1

/-- Which lattice points lie under a pinned line depends on the frame alone, for q in a range. A lattice point is the upper
point plus a steps up and b steps along the direction; the range lets a ≥ 0 go with b ≤ 0 only, and a < 0 with b ≥ 0 only,
so neither kind of step brings it back across the line. -/
theorem LatticeFrame.Pins.under_iff {L : LatticeFrame} {x y z : ℝ} (h : L.Pins x y z) {q : ℤ}
    (hmin : (L.lower.1 : ℤ) - L.direction.1 < q) (hmax : q < L.upper.1 + L.direction.1) (k : ℤ) :
    x * k ≤ y * q + z ↔ L.direction.1 * (k - L.upper.2) < L.direction.2 * (q - L.upper.1) := by
  obtain ⟨⟨q₀, k₀⟩, ⟨q₁, k₁⟩, ⟨dq, dk⟩, hle, hgen⟩ := L
  obtain ⟨hupper, hlower, hdir⟩ := h
  dsimp only at *
  obtain ⟨a, b, hq, hk⟩ :
      ∃ a b : ℤ, q = q₀ + a * (q₀ - q₁) + b * dq ∧ k = k₀ + a * (k₀ - k₁) + b * dk :=
    ⟨dq * (k - k₀) - dk * (q - q₀), (k₀ - k₁) * (q - q₀) - (q₀ - q₁) * (k - k₀),
      by linear_combination -(q - q₀) * hgen, by linear_combination -(k - k₀) * hgen⟩
  have hside : dq * (k - k₀) < dk * (q - q₀) ↔ a < 0 := by
    rw [← sub_neg, show dq * (k - k₀) - dk * (q - q₀) = a by linear_combination dq * hk - dk * hq + a * hgen]
  have hheight : x * k - (y * q + z) =
      x * k₀ - (y * q₀ + z) + a * (x * (k₀ - k₁) - y * (q₀ - q₁)) - b * (y * dq - x * dk) := by
    rw [hq, hk]
    push_cast
    ring
  have hrise : 0 < x * (k₀ - k₁) - y * (q₀ - q₁) := by linarith
  have hstep : (0 : ℤ) ≤ q₀ - q₁ := by omega
  rw [hside, ← not_iff_not, not_lt]
  constructor
  · intro hover
    by_contra! ha
    have hb : 0 ≤ b := by
      by_contra! hb
      nlinarith
    have ha' : (a : ℝ) + 1 ≤ 0 := by exact_mod_cast ha
    have hup := mul_nonpos_of_nonpos_of_nonneg ha' hrise.le
    have hback := mul_nonneg (Int.cast_nonneg hb) (sub_nonneg.mpr hdir)
    linarith
  · intro ha hunder
    have hb : b ≤ 0 := by
      by_contra! hb
      nlinarith
    have hup := mul_nonneg (Int.cast_nonneg ha) hrise.le
    have hback := mul_nonpos_of_nonpos_of_nonneg (Int.cast_nonpos.mpr hb) (sub_nonneg.mpr hdir)
    linarith

/-- The line of the points with m b^k = n g^q lies between the points of the frame: three comparisons of natural numbers. -/
structure LatticeFrame.PinsPowers (L : LatticeFrame) (m b n g : ℕ) : Prop where
  pos : 0 < m ∧ 0 < b ∧ 0 < n ∧ 0 < g
  upper : n * g ^ L.upper.1 < m * b ^ L.upper.2
  lower : m * b ^ L.lower.2 ≤ n * g ^ L.lower.1
  direction : b ^ L.direction.2 ≤ g ^ L.direction.1

/-- Comparing multiples of integer powers is comparing their logarithms. -/
theorem mul_zpow_le_mul_zpow_iff_log {m b n g : ℕ} (hpos : 0 < m ∧ 0 < b ∧ 0 < n ∧ 0 < g) (q k : ℤ) :
    (m : ℚ) * b ^ k ≤ n * g ^ q ↔ Real.log b * k ≤ Real.log g * q + (Real.log n - Real.log m) := by
  obtain ⟨hm, hb, hn, hg⟩ := hpos
  rw [← Rat.cast_le (K := ℝ)]
  push_cast
  rw [← Real.log_le_log_iff (by positivity) (by positivity), Real.log_mul (by positivity) (by positivity),
    Real.log_mul (by positivity) (by positivity), Real.log_zpow, Real.log_zpow, mul_comm _ (k : ℝ), mul_comm _ (q : ℝ),
    ← add_sub_assoc, le_sub_iff_add_le', add_comm (Real.log n)]

theorem LatticeFrame.PinsPowers.pins {L : LatticeFrame} {m b n g : ℕ} (h : L.PinsPowers m b n g) :
    L.Pins (Real.log b) (Real.log g) (Real.log n - Real.log m) where
  upper := by
    have hlog := (mul_zpow_le_mul_zpow_iff_log h.pos L.upper.1 L.upper.2).not
    rw [not_le, not_le] at hlog
    exact_mod_cast hlog.mp (by exact_mod_cast h.upper)
  lower := by
    exact_mod_cast (mul_zpow_le_mul_zpow_iff_log h.pos L.lower.1 L.lower.2).mp (by exact_mod_cast h.lower)
  direction := by
    have hpow : (b : ℝ) ^ L.direction.2 ≤ g ^ L.direction.1 := by exact_mod_cast h.direction
    have hlog := Real.log_le_log (pow_pos (Nat.cast_pos.mpr h.pos.2.1) _) hpow
    rwa [Real.log_pow, Real.log_pow, mul_comm, mul_comm (L.direction.1 : ℝ)] at hlog

/-- The line s k = c q + d of a fixed-point form lies between the points of the frame: three comparisons of integers. -/
structure LatticeFrame.PinsFixedPoint (L : LatticeFrame) (s c d : ℤ) : Prop where
  pos : 0 < s
  upper : c * L.upper.1 + d < s * L.upper.2
  lower : s * L.lower.2 ≤ c * L.lower.1 + d
  direction : s * L.direction.2 ≤ c * L.direction.1

theorem LatticeFrame.PinsFixedPoint.pins {L : LatticeFrame} {s c d : ℤ} (h : L.PinsFixedPoint s c d) : L.Pins s c d :=
  ⟨by exact_mod_cast h.upper, by exact_mod_cast h.lower, by exact_mod_cast h.direction⟩

/-- A logarithm and a fixed-point form with a common frame agree in its range. -/
theorem eq_fixedPoint_of_pins {L : LatticeFrame} {m b n g : ℕ} {s c d l q : ℤ} (hpow : L.PinsPowers m b n g)
    (hfix : L.PinsFixedPoint s c d) (hmin : (L.lower.1 : ℤ) - L.direction.1 < q) (hmax : q < L.upper.1 + L.direction.1)
    (hfloor : ∀ k : ℤ, k ≤ l ↔ (m : ℚ) * b ^ k ≤ n * g ^ q) : l = (q * c + d) / s := by
  refine eq_of_forall_le_iff fun k => ?_
  calc k ≤ l ↔ (m : ℚ) * b ^ k ≤ n * g ^ q := hfloor k
    _ ↔ Real.log b * k ≤ Real.log g * q + (Real.log n - Real.log m) := mul_zpow_le_mul_zpow_iff_log hpow.pos q k
    _ ↔ (s : ℝ) * k ≤ c * q + d := (hpow.pins.under_iff hmin hmax k).trans (hfix.pins.under_iff hmin hmax k).symm
    _ ↔ s * k ≤ c * q + d := by exact_mod_cast Iff.rfl
    _ ↔ k ≤ (q * c + d) / s := by rw [Int.le_ediv_iff_mul_le hfix.pos, mul_comm s, mul_comm c]

/-- 146/485 is above log10(2) and 643/2136 below it. -/
def frameLog10Two : LatticeFrame := ⟨(485, 146), (0, 0), (2136, 643), by decide, by decide⟩

/-- The same vectors around the line that lies log10(4/3) lower. -/
def frameLog10ThreeQuarters : LatticeFrame := ⟨(1286, 387), (801, 241), (2136, 643), by decide, by decide⟩

/-- 2136/643 is above log2(10) and 2621/789 below it. -/
def frameLog2Ten : LatticeFrame := ⟨(643, 2136), (0, 0), (789, 2621), by decide, by decide⟩

theorem flog10pow2_eq_fixedPoint {q : ℤ} (hmin : -1100 ≤ q) (hmax : q ≤ 999) :
    flog10pow2 q = q * 661971961083 / 2 ^ 41 := by
  have hpow : frameLog10Two.PinsPowers 1 10 1 2 := ⟨by decide, by decide +kernel, by decide, by decide +kernel⟩
  have hfix : frameLog10Two.PinsFixedPoint (2 ^ 41) 661971961083 0 := ⟨by decide, by decide, by decide, by decide⟩
  rw [← add_zero (q * _)]
  exact eq_fixedPoint_of_pins hpow hfix (hmin.trans_lt' (by decide)) (hmax.trans_lt (by decide)) fun k => by
    simp [le_flog10pow2_iff]

theorem flog10tq_eq_fixedPoint {q : ℤ} (hmin : -1100 ≤ q) (hmax : q ≤ 999) :
    flog10tq q = (q * 661971961083 - 274743187321) / 2 ^ 41 := by
  have hpow : frameLog10ThreeQuarters.PinsPowers 4 10 3 2 :=
    ⟨by decide, by decide +kernel, by decide +kernel, by decide +kernel⟩
  have hfix : frameLog10ThreeQuarters.PinsFixedPoint (2 ^ 41) 661971961083 (-274743187321) :=
    ⟨by decide, by decide, by decide, by decide⟩
  exact eq_fixedPoint_of_pins hpow hfix (hmin.trans_lt' (by decide)) (hmax.trans_lt (by decide)) (le_flog10tq_iff q)

theorem flog2pow10_eq_fixedPoint {e : ℤ} (hmin : -300 ≤ e) (hmax : e ≤ 329) :
    flog2pow10 e = e * 913124641741 / 2 ^ 38 := by
  have hpow : frameLog2Ten.PinsPowers 1 2 1 10 := ⟨by decide, by decide +kernel, by decide, by decide +kernel⟩
  have hfix : frameLog2Ten.PinsFixedPoint (2 ^ 38) 913124641741 0 := ⟨by decide, by decide, by decide, by decide⟩
  rw [← add_zero (e * _)]
  exact eq_fixedPoint_of_pins hpow hfix (hmin.trans_lt' (by decide)) (hmax.trans_lt (by decide)) fun k => by
    simp [le_flog2pow10_iff]

/-- Settles O23: each logarithm and its fixed-point form share a frame whose range holds R13's. -/
theorem fixedPointLogarithmsAgree : Obligations.FixedPointLogarithmsAgree :=
  ⟨fun _ hmin hmax => ⟨flog10pow2_eq_fixedPoint hmin hmax, flog10tq_eq_fixedPoint hmin hmax⟩,
    fun _ hmin hmax => flog2pow10_eq_fixedPoint hmin hmax⟩

end Sys2Proof.Machine
end

section
/-! The state file (10_state), part 4: what a command does depends only on the bits R45 lists as read by it. Two runs are
compared bit by bit: each command makes the same update in both, or takes the same fault. -/

namespace Sys2Proof.Machine

/-! ### Two runs, word by word -/

/-- Each bit of a register is left alone in both runs, from v to w and from v' to w', or ends the same in both. -/
def WordsAlike (v v' w w' : Word) : Prop :=
  ∀ j, (w.getLsbD j = v.getLsbD j ∧ w'.getLsbD j = v'.getLsbD j) ∨ w.getLsbD j = w'.getLsbD j

section
variable {v v' u u' w w' : Word}

theorem WordsAlike.kept : WordsAlike v v' v v' := fun _ => .inl ⟨rfl, rfl⟩

theorem WordsAlike.written : WordsAlike v v' w w := fun _ => .inr rfl

theorem WordsAlike.trans (h : WordsAlike v v' u u') (h' : WordsAlike u u' w w') : WordsAlike v v' w w' := by
  intro j
  obtain ⟨hw, hw'⟩ | hsame := h' j
  · rw [hw, hw']
    exact h j
  · exact .inr hsame

theorem WordsAlike.putField (lo : ℕ) {n : ℕ} (x : BitVec n) (hn : lo + n ≤ 64) :
    WordsAlike v v' (putField v lo x) (putField v' lo x) := by
  intro j
  rw [getLsbD_putField _ _ _ _ hn, getLsbD_putField _ _ _ _ hn]
  by_cases hj : lo ≤ j ∧ j < lo + n
  · rw [if_pos hj, if_pos hj]
    exact .inr rfl
  · rw [if_neg hj, if_neg hj]
    exact .inl ⟨rfl, rfl⟩

theorem WordsAlike.putTests (upin wpin uin win : Bool) (sel : BitVec 2) (tie : Bool) :
    WordsAlike v v' (putTests v upin wpin uin win sel tie) (putTests v' upin wpin uin win sel tie) :=
  (WordsAlike.putField 8 _ (by decide)).trans <| (WordsAlike.putField 9 _ (by decide)).trans <|
    (WordsAlike.putField 10 _ (by decide)).trans <| (WordsAlike.putField 11 _ (by decide)).trans <|
    (WordsAlike.putField 12 _ (by decide)).trans <| WordsAlike.putField 14 _ (by decide)

theorem WordsAlike.statusFaulted (x : Cause) : WordsAlike v v' (statusFaulted v x) (statusFaulted v' x) :=
  (WordsAlike.putField 0 _ (by decide)).trans <| WordsAlike.putField 8 _ (by decide)

end

/-! ### Two runs, register by register -/

/-- Each bit of each register is left alone in both runs, from s to t and from s' to t', or ends the same in both. -/
def RunsAlike (s s' t t' : State) : Prop :=
  ∀ r, WordsAlike (s.content r) (s'.content r) (t.content r) (t'.content r)

section
variable {s s' t t' u u' : State}

theorem RunsAlike.kept : RunsAlike s s' s s' := fun _ => .kept

theorem RunsAlike.trans (h : RunsAlike s s' t t') (h' : RunsAlike t t' u u') : RunsAlike s s' u u' :=
  fun r => (h r).trans (h' r)

theorem RunsAlike.raise (x : Cause) (w : Word) : RunsAlike s s' (s.raise x w) (s'.raise x w) := by
  intro r
  cases r
  case status => exact .statusFaulted x
  case einfo => exact .written
  all_goals exact .kept

theorem RunsAlike.clearFault : RunsAlike s s' s.clearFault s'.clearFault := by
  intro r
  cases r
  case status | einfo => exact .written
  all_goals exact .kept

theorem RunsAlike.resetRegisters : RunsAlike s s' s.resetRegisters s'.resetRegisters := by
  intro r
  rw [content_resetRegisters, content_resetRegisters]
  exact .written

theorem RunsAlike.setDecomposition (dkf int fmt : Bool) (cls : BitVec 3) (sign : Bool) (c q : Word) :
    RunsAlike s s' (s.setDecomposition (decompFlags s.flags dkf int fmt cls sign) c q)
      (s'.setDecomposition (decompFlags s'.flags dkf int fmt cls sign) c q) := by
  intro r
  cases r
  case flags => exact .putField _ _ (by decide)
  case c | q => exact .written
  all_goals exact .kept

theorem RunsAlike.setEstimate (k h : Word) (irr : Bool) :
    RunsAlike s s' (s.setEstimate k h irr) (s'.setEstimate k h irr) := by
  intro r
  cases r
  case flags => exact .putField _ _ (by decide)
  case k | h => exact .written
  all_goals exact .kept

theorem RunsAlike.setEntry (g1 g0 : Word) : RunsAlike s s' (s.setEntry g1 g0) (s'.setEntry g1 g0) := by
  intro r
  cases r
  case g1 | g0 => exact .written
  all_goals exact .kept

theorem RunsAlike.setProducts (vb vbl vbr : Word) :
    RunsAlike s s' (s.setProducts vb vbl vbr) (s'.setProducts vb vbl vbr) := by
  intro r
  cases r
  case vb | vbl | vbr => exact .written
  all_goals exact .kept

theorem RunsAlike.setRecord (f e n : Word) : RunsAlike s s' (s.setRecord f e n) (s'.setRecord f e n) := by
  intro r
  cases r
  case f | e | n => exact .written
  all_goals exact .kept

theorem RunsAlike.setFlags {v v' : Word} (h : WordsAlike s.flags s'.flags v v') :
    RunsAlike s s' (s.setFlags v) (s'.setFlags v') := by
  intro r
  cases r
  case flags => exact h
  all_goals exact .kept

theorem RunsAlike.setDigits (diglo dighi n : Word) :
    RunsAlike s s' (s.setDigits diglo dighi n) (s'.setDigits diglo dighi n) := by
  intro r
  cases r
  case diglo | dighi | n => exact .written
  all_goals exact .kept

theorem RunsAlike.setP (p : Word) : RunsAlike s s' (s.setP p) (s'.setP p) := by
  intro r
  cases r
  case p => exact .written
  all_goals exact .kept

/-! ### The bodies, from states that agree on what they read -/

/-- Two states give KEST the same operands (R123, R124). -/
structure OperandsAgree (s s' : State) : Prop where
  cls : flagClass s.flags = flagClass s'.flags
  fmt : flagFmt s.flags = flagFmt s'.flags
  dkf : flagDkf s.flags = flagDkf s'.flags
  c : s.c = s'.c
  q : s.q = s'.q

theorem OperandsAgree.operandsOK_iff (h : OperandsAgree s s') : operandsOK s ↔ operandsOK s' := by
  rw [operandsOK, operandsOK, h.fmt, h.dkf, h.c, h.q]

theorem OperandsAgree.fastPathOK_iff (h : OperandsAgree s s') : fastPathOK s ↔ fastPathOK s' := by
  rw [fastPathOK, fastPathOK, h.cls, h.fmt, h.dkf, h.c, h.q]

theorem kestBody_alike (h : OperandsAgree s s') :
    (∃ x, kestBody s = .error x ∧ kestBody s' = .error x) ∨
      ∃ k h irr, kestBody s = .ok (s.setEstimate k h irr) ∧ kestBody s' = .ok (s'.setEstimate k h irr) := by
  cases hb : kestBody s' with
  | error x =>
    rw [kestBody_error_iff, ← h.cls, ← h.operandsOK_iff, ← kestBody_error_iff] at hb
    exact .inl ⟨x, hb, rfl⟩
  | ok t =>
    obtain ⟨hcl, hop, rfl⟩ := (kestBody_ok_iff s' t).mp hb
    refine .inr ⟨_, _, _, (kestBody_ok_iff s _).mpr ⟨h.cls ▸ hcl, h.operandsOK_iff.mpr hop, ?_⟩, rfl⟩
    rw [h.fmt, h.c, h.q]

theorem gldBody_alike (hk : s.k = s'.k) :
    (∃ x, gldBody s = .error x ∧ gldBody s' = .error x) ∨
      ∃ g1 g0, gldBody s = .ok (s.setEntry g1 g0) ∧ gldBody s' = .ok (s'.setEntry g1 g0) := by
  unfold gldBody
  rw [hk]
  by_cases hrange : s64 s'.k < kMin ∨ kMax < s64 s'.k
  · rw [if_pos hrange, if_pos hrange]
    exact .inl ⟨_, rfl, rfl⟩
  · rw [if_neg hrange, if_neg hrange]
    cases romRead (s64 s'.k - kMin).toNat with
    | none => exact .inl ⟨_, rfl, rfl⟩
    | some g => exact .inr ⟨_, _, rfl, rfl⟩

theorem mulrBody_alike (hirr : flagIrr s.flags = flagIrr s'.flags) (hc : s.c = s'.c) (hh : s.h = s'.h) (hg1 : s.g1 = s'.g1)
    (hg0 : s.g0 = s'.g0) :
    (∃ x, mulrBody s = .error x ∧ mulrBody s' = .error x) ∨
      ∃ vb vbl vbr, mulrBody s = .ok (s.setProducts vb vbl vbr) ∧ mulrBody s' = .ok (s'.setProducts vb vbl vbr) := by
  have hrange : mulrOutOfRange s ↔ mulrOutOfRange s' := by rw [mulrOutOfRange, mulrOutOfRange, hc, hh, hg1, hg0]
  obtain ⟨hout, hb⟩ | ⟨hin, hb⟩ := mulrBody_cases s
  · exact .inl ⟨_, hb, ((mulrBody_cases s').resolve_right fun h => h.1 (hrange.mp hout)).2⟩
  · have hb' := ((mulrBody_cases s').resolve_left fun h => hin (hrange.mpr h.1)).2
    rw [← hirr, ← hc, ← hh, ← hg1, ← hg0] at hb'
    exact .inr ⟨_, _, _, hb, hb'⟩

theorem bselBody_alike (hdkf : flagDkf s.flags = flagDkf s'.flags) (hparity : s.c.toNat % 2 = s'.c.toNat % 2)
    (hk : s.k = s'.k) (hvb : s.vb = s'.vb) (hvbl : s.vbl = s'.vbl) (hvbr : s.vbr = s'.vbr) :
    ∃ (f e n : Word) (r : Selection),
      bselBody s = .ok ((s.setRecord f e n).setFlags (putTests s.flags r.upin r.wpin r.uin r.win r.sel r.tie)) ∧
      bselBody s' = .ok ((s'.setRecord f e n).setFlags (putTests s'.flags r.upin r.wpin r.uin r.win r.sel r.tie)) := by
  simp only [bselBody, hparity, hvb, hvbl, hvbr]
  generalize select s'.vb.toNat s'.vbl.toNat s'.vbr.toNat (s'.c.toNat % 2) = r
  simp only [candidateRecord, decimalShift, hk, hdkf]
  by_cases h : r.cand = 0
  · rw [if_pos h, if_pos h]
    exact ⟨_, _, _, r, rfl, rfl⟩
  · rw [if_neg h, if_neg h]
    exact ⟨_, _, _, r, rfl, rfl⟩

theorem dnormRecord_alike (f : ℕ) (e : ℤ) (s s' : State) :
    ∃ f' e' n', dnormRecord f e s = s.setRecord f' e' n' ∧ dnormRecord f e s' = s'.setRecord f' e' n' := by
  unfold dnormRecord
  by_cases h : f = 0
  · rw [if_pos h, if_pos h]
    exact ⟨_, _, _, rfl, rfl⟩
  · rw [if_neg h, if_neg h]
    exact ⟨_, _, _, rfl, rfl⟩

theorem RunsAlike.dnormRecord (f : ℕ) (e : ℤ) : RunsAlike s s' (dnormRecord f e s) (dnormRecord f e s') := by
  obtain ⟨_, _, _, hr, hr'⟩ := dnormRecord_alike f e s s'
  rw [hr, hr']
  exact .setRecord _ _ _

/-! ### Both runs fault alike or complete alike -/

/-- Two bodies fault with one cause, or complete and change the same bits the same way. -/
inductive OutcomesAlike (s s' : State) : Except Cause State → Except Cause State → Prop
  | fault (x : Cause) : OutcomesAlike s s' (.error x) (.error x)
  | done {t t' : State} (h : RunsAlike s s' t t') : OutcomesAlike s s' (.ok t) (.ok t')

/-- The five steps make the same updates: what a later step reads, an earlier one wrote or both states hold. -/
theorem generalPath_alike (ho : OperandsAgree s s') : OutcomesAlike s s' (generalPath s) (generalPath s') := by
  unfold generalPath
  obtain ⟨x, h1, h1'⟩ | ⟨k, h, irr, h1, h1'⟩ := kestBody_alike ho <;> rw [h1, h1']
  · exact .fault x
  dsimp only
  obtain ⟨x, h2, h2'⟩ | ⟨g1, g0, h2, h2'⟩ :=
    gldBody_alike (s := s.setEstimate k h irr) (s' := s'.setEstimate k h irr) rfl <;> rw [h2, h2']
  · exact .fault x
  dsimp only
  have hirr (v v' : Word) : flagIrr (putIrr v irr) = flagIrr (putIrr v' irr) := by
    rw [flagIrr, flagIrr, getLsbD_putIrr, getLsbD_putIrr, if_pos rfl, if_pos rfl]
  obtain ⟨x, h3, h3'⟩ | ⟨vb, vbl, vbr, h3, h3'⟩ :=
    mulrBody_alike (s := (s.setEstimate k h irr).setEntry g1 g0) (s' := (s'.setEstimate k h irr).setEntry g1 g0)
      (hirr _ _) ho.c rfl rfl rfl <;> rw [h3, h3']
  · exact .fault x
  dsimp only
  have hdkf' : flagDkf (putIrr s.flags irr) = flagDkf (putIrr s'.flags irr) := by
    rw [flagDkf, flagDkf, getLsbD_putIrr, getLsbD_putIrr]
    exact ho.dkf
  obtain ⟨f, e, n, r, h4, h4'⟩ :=
    bselBody_alike (s := ((s.setEstimate k h irr).setEntry g1 g0).setProducts vb vbl vbr)
      (s' := ((s'.setEstimate k h irr).setEntry g1 g0).setProducts vb vbl vbr)
      hdkf' (congrArg (fun v : Word => v.toNat % 2) ho.c) rfl rfl rfl rfl
  rw [h4, h4']
  exact .done <| (RunsAlike.setEstimate k h irr).trans <| (RunsAlike.setEntry g1 g0).trans <|
    (RunsAlike.setProducts vb vbl vbr).trans <| (RunsAlike.setRecord f e n).trans <|
    (RunsAlike.setFlags (.putTests _ _ _ _ _ _)).trans <| RunsAlike.dnormRecord _ _

theorem shortestBody_alike (ho : OperandsAgree s s') (hint : flagInt s.flags = flagInt s'.flags) :
    OutcomesAlike s s' (shortestBody s) (shortestBody s') := by
  by_cases hreserved : 3 ≤ flagClass s.flags
  · rw [shortestBody_of_reserved hreserved, shortestBody_of_reserved (ho.cls ▸ hreserved)]
    exact .fault _
  by_cases hzero : flagClass s.flags = 0
  · rw [shortestBody_of_zero hzero, shortestBody_of_zero (ho.cls ▸ hzero)]
    exact .done (.setRecord 0 0 0)
  have hc : flagClass s.flags = 1 ∨ flagClass s.flags = 2 := by omega
  cases hi : flagInt s.flags with
  | true =>
    obtain ⟨hok, hb⟩ | ⟨hbad, hb⟩ := shortestBody_of_int hc hi <;>
      obtain ⟨hok', hb'⟩ | ⟨hbad', hb'⟩ := shortestBody_of_int (ho.cls ▸ hc) (hint ▸ hi) <;> rw [hb, hb']
    · rw [ho.c, ho.q]
      exact .done (.dnormRecord _ _)
    · exact absurd (ho.fastPathOK_iff.mp hok) hbad'
    · exact absurd (ho.fastPathOK_iff.mpr hok') hbad
    · exact .fault _
  | false =>
    obtain ⟨hok, hb⟩ | ⟨hbad, hb⟩ := shortestBody_of_not_int hc hi <;>
      obtain ⟨hok', hb'⟩ | ⟨hbad', hb'⟩ := shortestBody_of_not_int (ho.cls ▸ hc) (hint ▸ hi) <;> rw [hb, hb']
    · exact generalPath_alike ho
    · exact absurd (ho.operandsOK_iff.mp hok) hbad'
    · exact absurd (ho.operandsOK_iff.mpr hok') hbad
    · exact .fault _

theorem pcalcBody_alike (hf : s.f = s'.f) (he : s.e = s'.e) (hn : s.n = s'.n) (hprec : s.prec = s'.prec) :
    OutcomesAlike s s' (pcalcBody s) (pcalcBody s') := by
  have hrec : recordOK s ↔ recordOK s' := by rw [recordOK, recordOK, hf, he, hn]
  obtain ⟨hok, hb⟩ | ⟨hbad, hb⟩ := pcalcBody_cases s <;>
    obtain ⟨hok', hb'⟩ | ⟨hbad', hb'⟩ := pcalcBody_cases s' <;> rw [hb, hb']
  · rw [he, hn, hprec]
    exact .done (.setP _)
  · exact absurd (hrec.mp hok) hbad'
  · exact absurd (hrec.mpr hok') hbad
  · exact .fault _

theorem rndpBody_alike (hjdk : ctrlJdk s.ctrl = ctrlJdk s'.ctrl) (hf : s.f = s'.f) (he : s.e = s'.e) (hn : s.n = s'.n)
    (hp : s.p = s'.p) : OutcomesAlike s s' (rndpBody s) (rndpBody s') := by
  have hrec : recordOK s ↔ recordOK s' := by rw [recordOK, recordOK, hf, he, hn]
  obtain ⟨hok, r, hr, hb⟩ | ⟨hbad, hb⟩ := rndpBody_cases s <;>
    obtain ⟨hok', r', hr', hb'⟩ | ⟨hbad', hb'⟩ := rndpBody_cases s' <;> rw [hb, hb']
  · obtain rfl : r = r' := by rw [hr, hr', hjdk, hf, he, hn, hp]
    exact .done <| (RunsAlike.setRecord _ _ _).trans <| RunsAlike.setFlags (.putField _ _ (by decide))
  · exact absurd (hrec.mp hok) hbad'
  · exact absurd (hrec.mpr hok') hbad
  · exact .fault _

theorem decompWrites_alike (fmt : Bool) (hsign : signOf (formatOf fmt) s.bits = signOf (formatOf fmt) s'.bits)
    (hexp : biasedExponentOf (formatOf fmt) s.bits = biasedExponentOf (formatOf fmt) s'.bits)
    (hfrac : fractionOf (formatOf fmt) s.bits = fractionOf (formatOf fmt) s'.bits) :
    RunsAlike s s' (decompWrites fmt s) (decompWrites fmt s') := by
  simp only [decompWrites, hsign, hexp, hfrac]
  exact .setDecomposition _ _ _ _ _ _ _

end

/-! ### What agreement on the bits of a mask gives -/

section
variable {v w m : Word} (h : v &&& m = w &&& m)
include h

theorem getLsbD_eq_of_and_eq {j : ℕ} (hj : m.getLsbD j = true) : v.getLsbD j = w.getLsbD j := by
  have hbit := congrArg (fun x : Word => x.getLsbD j) h
  simpa only [BitVec.getLsbD_and, hj, Bool.and_true] using hbit

theorem getField_eq_of_and_eq {lo n : ℕ} (hm : ∀ j < n, m.getLsbD (lo + j) = true) :
    getField v lo n = getField w lo n := by
  refine BitVec.eq_of_getLsbD_eq fun j hj => ?_
  rw [getLsbD_getField, getLsbD_getField, getLsbD_eq_of_and_eq h (hm j hj)]

end

theorem eq_of_and_wholeRegister {v w : Word} (h : v &&& wholeRegister = w &&& wholeRegister) : v = w := by
  rwa [show wholeRegister = BitVec.allOnes 64 from rfl, BitVec.and_allOnes, BitVec.and_allOnes] at h

/-- The parity of C is its bit 0. -/
theorem toNat_mod_two_eq {v w : Word} (h : v.getLsbD 0 = w.getLsbD 0) : v.toNat % 2 = w.toNat % 2 := by
  have hodd : v.toNat % 2 = 1 ↔ w.toNat % 2 = 1 := by rw [← getLsbD_zero_eq_true_iff, ← getLsbD_zero_eq_true_iff, h]
  omega

/-- Two states agree on the bits R45 lists as read by the command. -/
def ReadsAgree (i : Instr) (s s' : State) : Prop :=
  ∀ r, s.content r &&& readMask i r = s'.content r &&& readMask i r

section
variable {s s' : State}

/-- KEST and SHORTEST read CLASS, FMT, DKF, C and Q (R45). -/
theorem operandsAgree_of_readsAgree {i : Instr} (hi : i = .kest ∨ i = .shortest) (h : ReadsAgree i s s') :
    OperandsAgree s s' := by
  obtain rfl | rfl := hi <;>
    exact ⟨congrArg BitVec.toNat (getField_eq_of_and_eq (h .flags) (by decide)),
      getLsbD_eq_of_and_eq (h .flags) (by decide), getLsbD_eq_of_and_eq (h .flags) (by decide),
      eq_of_and_wholeRegister (h .c), eq_of_and_wholeRegister (h .q)⟩

/-- The body of a command does the same in both runs. -/
theorem commandBody_alike {i : Instr} (h : ReadsAgree i s s') : OutcomesAlike s s' (commandBody i s) (commandBody i s') := by
  cases i with
  | nop => exact .done .kept
  | errclr => exact .done .clearFault
  | srst => exact .done .resetRegisters
  | decompD =>
    have hbits : s.bits = s'.bits := eq_of_and_wholeRegister (h .bits)
    exact .done (decompWrites_alike false (by rw [hbits]) (by rw [hbits]) (by rw [hbits]))
  | decompS =>
    have hbits : s.bits &&& 0x00000000FFFFFFFF = s'.bits &&& 0x00000000FFFFFFFF := h .bits
    exact .done (decompWrites_alike true (getLsbD_eq_of_and_eq hbits (by decide))
      (congrArg BitVec.toNat (getField_eq_of_and_eq hbits (by decide)))
      (congrArg BitVec.toNat (getField_eq_of_and_eq hbits (by decide))))
  | kest =>
    obtain ⟨x, hb, hb'⟩ | ⟨k, g, irr, hb, hb'⟩ := kestBody_alike (operandsAgree_of_readsAgree (.inl rfl) h) <;>
      simp only [commandBody, hb, hb']
    · exact .fault x
    · exact .done (.setEstimate k g irr)
  | gld =>
    obtain ⟨x, hb, hb'⟩ | ⟨g1, g0, hb, hb'⟩ := gldBody_alike (eq_of_and_wholeRegister (h .k)) <;>
      simp only [commandBody, hb, hb']
    · exact .fault x
    · exact .done (.setEntry g1 g0)
  | mulr =>
    obtain ⟨x, hb, hb'⟩ | ⟨vb, vbl, vbr, hb, hb'⟩ := mulrBody_alike (getLsbD_eq_of_and_eq (h .flags) (by decide))
      (eq_of_and_wholeRegister (h .c)) (eq_of_and_wholeRegister (h .h)) (eq_of_and_wholeRegister (h .g1))
      (eq_of_and_wholeRegister (h .g0)) <;>
      simp only [commandBody, hb, hb']
    · exact .fault x
    · exact .done (.setProducts vb vbl vbr)
  | bsel =>
    obtain ⟨f, e, n, r, hb, hb'⟩ := bselBody_alike (getLsbD_eq_of_and_eq (h .flags) (by decide))
      (toNat_mod_two_eq (getLsbD_eq_of_and_eq (h .c) (by decide))) (eq_of_and_wholeRegister (h .k))
      (eq_of_and_wholeRegister (h .vb)) (eq_of_and_wholeRegister (h .vbl)) (eq_of_and_wholeRegister (h .vbr))
    simp only [commandBody, hb, hb']
    exact .done <| (RunsAlike.setRecord f e n).trans <| RunsAlike.setFlags (.putTests _ _ _ _ _ _)
  | shortest =>
    exact shortestBody_alike (operandsAgree_of_readsAgree (.inr rfl) h) (getLsbD_eq_of_and_eq (h .flags) (by decide))
  | dnorm =>
    have hf : s.f = s'.f := eq_of_and_wholeRegister (h .f)
    have he : s.e = s'.e := eq_of_and_wholeRegister (h .e)
    simp only [commandBody, dnormBody, hf, he]
    exact .done (.dnormRecord _ _)
  | digits =>
    have hf : s.f = s'.f := eq_of_and_wholeRegister (h .f)
    simp only [commandBody, digitsWrites, hf]
    exact .done (.setDigits _ _ _)
  | pcalc =>
    exact pcalcBody_alike (eq_of_and_wholeRegister (h .f)) (eq_of_and_wholeRegister (h .e)) (eq_of_and_wholeRegister (h .n))
      (eq_of_and_wholeRegister (h .prec))
  | rndp =>
    exact rndpBody_alike (getLsbD_eq_of_and_eq (h .ctrl) (by decide)) (eq_of_and_wholeRegister (h .f))
      (eq_of_and_wholeRegister (h .e)) (eq_of_and_wholeRegister (h .n)) (eq_of_and_wholeRegister (h .p))

/-- The gate and the fault entry keep two runs alike. -/
theorem command_alike (i : Instr) {body : State → Except Cause State} (herr : statusErr s.status = statusErr s'.status)
    (h : OutcomesAlike s s' (body s) (body s')) : RunsAlike s s' (command i body s) (command i body s') := by
  unfold command State.faultStands
  rw [herr]
  cases statusErr s'.status with
  | true => exact .kept
  | false =>
    generalize body s = a at h
    generalize body s' = a' at h
    cases h with
    | fault x => exact .raise x _
    | done h => exact h

end

/-- Settles O50: the bodies do the same in both runs, and the gate reads ERR alone. -/
theorem commandsReadOnlyTheirRegisters : Obligations.CommandsReadOnlyTheirRegisters := by
  intro i s s' t t' herr hreads ht ht'
  change RunsAlike s s' t t'
  obtain ⟨rfl, he⟩ | ⟨rfl, he⟩ | ⟨hclr, hrst, he⟩ := exec_cases i s <;>
    obtain rfl := Host.Outcome.next.inj (he.symm.trans ht)
  · obtain rfl := Host.Outcome.next.inj ht'
    exact .clearFault
  · obtain rfl := Host.Outcome.next.inj ht'
    exact .resetRegisters
  · obtain ⟨hi, -⟩ | ⟨hi, -⟩ | ⟨-, -, he'⟩ := exec_cases i s'
    · exact absurd hi hclr
    · exact absurd hi hrst
    · obtain rfl := Host.Outcome.next.inj (he'.symm.trans ht')
      exact command_alike i herr (commandBody_alike hreads)

end Sys2Proof.Machine
end
